-- ==== Sys2Proof/Word.lean ====
section
/-! DEFINITION. The words and fixed-length tables the model is written over: bytes and 16-bit words
where the links carry them (spec/10, 10.9), and tables of a fixed number of like things. -/

namespace Sys2Proof

/-- One byte of a link (R169). -/
abbrev Byte := BitVec 8

/-- One two-byte field of a link body, little-endian on the line (00, section 6.4). -/
abbrev Word16 := BitVec 16

/-- The table of the `n` values of `f`. -/
def tabulate {α : Type} {n : Nat} (f : Fin n → α) : Vector α n :=
  ⟨⟨List.ofFn f⟩, by simp⟩

/-- The table with entry `i` changed by `f`. -/
def upd {α : Type} {n : Nat} (v : Vector α n) (i : Fin n) (f : α → α) : Vector α n :=
  v.set i (f v[i])

end Sys2Proof
end

