-- ==== Sys2Proof/Syntax.lean ====
section
/-! DEFINITION. The commands of the part: one constructor of `Instr` for each row of
spec/opcode_table.json, and `Request`, the request catalogue of spec/10 (10.9) with its body fields. -/

namespace Sys2Proof

/-- A link, 0…2 (00, section 6.2). -/
abbrev Link := Fin 3
/-- A payout tube, 0…4 (00, section 6.2). -/
abbrev TubeNo := Fin 5
/-- A coin type, 0…7 (00, section 6.2). -/
abbrev CoinTypeNo := Fin 8
/-- A selection code, row × 10 + column (00, section 6.2). -/
abbrev Sel := Fin 80
/-- A spiral position, named as a selection is (00, section 6.2). -/
abbrev Pos := Fin 80
/-- A row of the matrix, A to H. -/
abbrev Row := Fin 8

/-- What starts the part: a rise of the supply, or a release of RESET_N (00, section 6.6; R193). -/
inductive PowerOnCause where
  | supplyRise
  | resetRelease
  deriving DecidableEq, Repr

/-- The tube level sensors as the inputs TFULL and TLOW show them: true is COVERED (R41, R48). -/
structure TubeLevels where
  full : Vector Bool 5
  low  : Vector Bool 5
  deriving DecidableEq, Repr

/-- Which of a tube's two level sensors (R41). -/
inductive TubeSensor where
  | full
  | low
  deriving DecidableEq, Repr

/-- The body of SET_SELECTION (10.9). -/
structure SelectionArgs where
  sel        : Byte
  price      : Word16
  column     : Byte
  pair       : Byte
  domain     : Byte
  perishable : Byte
  stock      : Byte
  available  : Byte
  deriving DecidableEq, Repr

/-- The body of SET_COIN_TYPE (10.9). -/
structure CoinTypeArgs where
  type    : Byte
  enabled : Byte
  value   : Word16
  fMin    : Word16
  fMax    : Word16
  aMin    : Byte
  aMax    : Byte
  dest    : Byte
  deriving DecidableEq, Repr

/-- The body of SET_TUBE (10.9). -/
structure TubeArgs where
  tube     : Byte
  enabled  : Byte
  value    : Word16
  capacity : Byte
  fullMark : Byte
  lowMark  : Byte
  floor    : Byte
  deriving DecidableEq, Repr

/-- The body of SET_COOLING (10.9). -/
structure CoolingArgs where
  base         : Word16
  hysteresis   : Word16
  defrostType  : Byte
  interval     : Byte
  terminate    : Word16
  safetyLimit  : Word16
  safetyDelay  : Byte
  setbackOff   : Word16
  setbackDelay : Byte
  enable       : Byte
  zones        : Byte
  deriving DecidableEq, Repr

/-- The body of SET_BUDGET (10.9). -/
structure BudgetArgs where
  normal   : Byte
  low      : Byte
  motor    : Byte
  probe    : Byte
  payout   : Byte
  start    : Byte
  run      : Byte
  heater   : Byte
  lighting : Byte
  deriving DecidableEq, Repr

/-- The body of SET_LINK (10.9). -/
structure LinkArgs where
  link    : Byte
  roles   : Byte
  domains : Byte
  mask    : BitVec 24
  mirror  : Byte
  enables : Byte
  deriving DecidableEq, Repr

/-- One motion profile in the body of SET_SALES (10.9). -/
structure ProfileArgs where
  ramp  : Word16
  duty  : Byte
  extra : Byte
  deriving DecidableEq, Repr

/-- The body of SET_SALES (10.9). -/
structure SalesArgs where
  creditLimit     : Word16
  horizon         : Word16
  forceVend       : Byte
  multiVend       : Byte
  rejectThreshold : Byte
  cardIdle        : Byte
  ambient         : ProfileArgs
  chilled         : ProfileArgs
  deriving DecidableEq, Repr

/-- The request catalogue of 10.9, each request with the fields of its body. -/
inductive Request where
  | ident
  | fetchNotices
  | linkStatus
  | clearLinkErrors (mask : Byte)
  | linkReset
  | order (sel : Byte)
  | cancelOrder (id : Byte)
  | returnCredit
  | readCredit
  | readSelection (sel : Byte)
  | cardOpen (funds : Word16)
  | cardApprove (id : Byte) (decision : Byte)
  | cardClose
  | remoteOrder (sel : Byte)
  | readAudit (copy : Byte) (group : Byte)
  | readTubes
  | readCooling
  | clearInterim
  | setPrice (sel : Byte) (price : Word16)
  | setSelection (a : SelectionArgs)
  | setCoinType (a : CoinTypeArgs)
  | setTube (a : TubeArgs)
  | setCooling (a : CoolingArgs)
  | setBudget (a : BudgetArgs)
  | setLink (a : LinkArgs)
  | setSales (a : SalesArgs)
  | saveSettings
  | serviceEnter
  | serviceLeave
  | clearHold (sel : Byte) (kind : Byte)
  | safetyRelease
  | protect (sel : Byte) (value : Byte)
  | testTurn (sel : Byte)
  | tubeDispense (tube : Byte) (coins : Byte)
  | probeMotors
  | setTubeCount (tube : Byte) (count : Byte)
  | forceDefrost
  | setOutputs (value : Byte)
  | softRestart
  deriving DecidableEq, Repr

/-- The commands: one constructor for each row of spec/opcode_table.json. A request command is a complete,
well-formed request frame on link `l` (R171); currents are in mA, mains levels in per cent of nominal. -/
inductive Instr where
  /-- POWER_ON: what started the part, and what it reads from MAINS_SNS, TFULL and TLOW (R166, R48). -/
  | powerOn (cause : PowerOnCause) (level : Nat) (tubes : TubeLevels)
  /-- POWER_RECOVERY: the level, above 90 % for 2 s, and the tube sensors as read then (R164). -/
  | powerRecovery (level : Nat) (tubes : TubeLevels)
  | powerFail
  | resetNAssert
  | runningRegionSaveEnd
  /-- SUPPLY_LOW: the mains level at the change (R163). -/
  | supplyLow (level : Nat)
  /-- SUPPLY_GOOD: the mains level at the change (R163). -/
  | supplyGood (level : Nat)
  /-- LINK_BYTE: a byte received on link `l`; `stopOk` is false when its stop bit is low (R169, R170). -/
  | linkByte (l : Link) (b : Byte) (stopOk : Bool)
  | gap (l : Link)
  | responseSent (l : Link)
  | ident (l : Link)
  | fetchNotices (l : Link)
  | linkStatus (l : Link)
  | clearLinkErrors (l : Link) (mask : Byte)
  | linkReset (l : Link)
  | order (l : Link) (sel : Byte)
  | cancelOrder (l : Link) (id : Byte)
  | returnCredit (l : Link)
  | readCredit (l : Link)
  | readSelection (l : Link) (sel : Byte)
  | cardOpen (l : Link) (funds : Word16)
  | cardApprove (l : Link) (id : Byte) (decision : Byte)
  | cardClose (l : Link)
  | remoteOrder (l : Link) (sel : Byte)
  | readAudit (l : Link) (copy : Byte) (group : Byte)
  | readTubes (l : Link)
  | readCooling (l : Link)
  | clearInterim (l : Link)
  | setPrice (l : Link) (sel : Byte) (price : Word16)
  | setSelection (l : Link) (a : SelectionArgs)
  | setCoinType (l : Link) (a : CoinTypeArgs)
  | setTube (l : Link) (a : TubeArgs)
  | setCooling (l : Link) (a : CoolingArgs)
  | setBudget (l : Link) (a : BudgetArgs)
  | setLink (l : Link) (a : LinkArgs)
  | setSales (l : Link) (a : SalesArgs)
  | saveSettings (l : Link)
  | settingsSaveEnd
  | serviceEnter (l : Link)
  | serviceLeave (l : Link)
  | clearHold (l : Link) (sel : Byte) (kind : Byte)
  | safetyRelease (l : Link)
  | protect (l : Link) (sel : Byte) (value : Byte)
  | testTurn (l : Link) (sel : Byte)
  | tubeDispense (l : Link) (tube : Byte) (coins : Byte)
  | probeMotors (l : Link)
  | setTubeCount (l : Link) (tube : Byte) (count : Byte)
  | forceDefrost (l : Link)
  | setOutputs (l : Link) (value : Byte)
  | softRestart (l : Link)
  /-- BASELINE_MEASUREMENT: cycles counted over the 2 ms gate and the amplitude seen (R28). -/
  | baselineMeasurement (count : BitVec 16) (amp : BitVec 12)
  /-- COIN_PASSAGE_START: the amplitude reading that fell below the presence threshold (R29; log 17). -/
  | coinPassageStart (amp : BitVec 12)
  /-- PASSAGE_GATE_END: cycles counted over the 2 ms gate and the lowest amplitude in it (R29). -/
  | passageGateEnd (count : BitVec 16) (amp : BitVec 12)
  /-- PASSED: the lowest amplitude since the end of the last completed gate, or since the start of a passage in which none
  completed; 4,095, the greatest reading, stands for no reading there (R29; log 17). -/
  | passed (amp : BitVec 12 := 4095)
  | acceptGateClose
  | creditPulse
  | coinDeadline
  | rejectPeriodEnd
  | lockoutEnd
  /-- TUBE_SENSOR_CHANGE: the tube, its sensor, and the level held for 100 ms (R41). -/
  | tubeSensorChange (tube : TubeNo) (sensor : TubeSensor) (covered : Bool)
  | planningEnd
  | ejectPulseEnd
  | exitWindowClose
  | nextCoinStart
  | exitPulse
  /-- DOOR_CHANGE: the level the door input has held for 50 ms (R184). -/
  | doorChange (isOpen : Bool)
  /-- APPROVAL_DEADLINE: of the order with this id (R117). -/
  | approvalDeadline (id : Nat)
  | cardIdleExpiry
  /-- OPEN_CHECK: MOTOR_I in mA (R98). -/
  | openCheck (current : Nat)
  /-- CAM_LEAVES_HOME: the spiral whose cam switch opens (R99). -/
  | camLeavesHome (pos : Pos)
  | startLimit
  /-- JAM_CURRENT: the least MOTOR_I of the last 200 ms, in mA (R100). -/
  | jamCurrent (current : Nat)
  | turnLimit
  /-- CAM_HOMES: the spiral whose cam switch closes (R101). -/
  | camHomes (pos : Pos)
  | brakeEnd
  | dropWindowClose
  /-- DROP: `early` when the interruption began before the first energizing of the order in TURNING (R103). -/
  | drop (early : Bool)
  | lateDropExpiry
  | dropFault
  | dropOk
  /-- PROBE_STEP_END: MOTOR_I in mA (R109). -/
  | probeStepEnd (current : Nat)
  /-- ZONE_SAMPLE: the 12-bit reading (R127). -/
  | zoneSample (reading : BitVec 12)
  /-- EVAP_SAMPLE: the 12-bit reading (R127). -/
  | evapSample (reading : BitVec 12)
  | startDelayEnd
  | compressorResize
  | minOffEnd
  | pullDown
  | defrostForced
  | defrostTimeEnd
  | drainEnd
  | fbOffEnd
  | fbOnEnd
  | setbackExpiry
  | compressorPromotion
  deriving DecidableEq, Repr

end Sys2Proof
end

