-- ==== Sys2Proof/Machine/Types.lean ====
section
/-! DEFINITION. The records of the part's blocks (00, section 3), each with the fields its rule names. -/

namespace Sys2Proof.Machine

/-! ## Credit, orders and money (spec/01, 04, 06) -/

/-- The party the machine is selling to (R1). -/
inductive Session where
  | idle | cash | card | cardClosing | remote
  deriving DecidableEq, Repr

/-- Who pays for an order (R81). -/
inductive Funding where
  | cash | card | remote | test
  deriving DecidableEq, Repr

/-- The states of a vend order (R81). -/
inductive OrderState where
  | waitApproval | ready | waitGrant | turning | done | failed | cancelled
  deriving DecidableEq, Repr

/-- DONE and the end reasons, in the code order of 10.9 (R81, R92). -/
inductive EndReason where
  | done | noDrop | jam | noStart | noMotor | held | denied | approvalTimeout
  | cancelled | safety | door | restart | cardClosed
  deriving DecidableEq, Repr

/-- The credit record (R1). `returnPending` is set when it names the link its payout will take (R57). -/
structure Credit where
  session       : Session
  cash          : Nat
  reserved      : Nat
  vended        : Bool
  returnPending : Option Link
  payoutActive  : Bool
  owed          : Nat
  deriving DecidableEq, Repr

/-- The closing reasons of a card session, in the code order of CARD_END (R113, 10.9). -/
inductive CloseReason where
  | closed | expired | linkReset | restart
  deriving DecidableEq, Repr

/-- An open card session (R113); the record is closed when State holds none. `idleEnd` is the idle timer's
expiry, absent while it is stopped; `closing` is present only in CARD_CLOSING. -/
structure CardSession where
  link     : Link
  funds    : Nat
  reserved : Nat
  idleEnd  : Option Nat
  closing  : Option CloseReason
  deriving DecidableEq, Repr

/-- An entry of the lapsed-id list (R119). -/
structure Lapsed where
  id   : Nat
  link : Link
  deriving DecidableEq, Repr

/-- The spirals of a selection or an order: one spiral, or that one and its right-hand neighbour (R72). -/
structure Spirals where
  first : Pos
  pair  : Bool
  deriving DecidableEq, Repr

/-- A vend order (R81). `deadline` is present only in WAIT_APPROVAL, `cardLink` only for CARD. -/
structure Order where
  id        : Nat
  sel       : Sel
  spirals   : Spirals
  price     : Nat
  funding   : Funding
  origin    : Link
  cardLink  : Option Link
  state     : OrderState
  turns     : Nat
  deadline  : Option Nat
  endReason : Option EndReason
  deriving DecidableEq, Repr

/-! ## Selections (spec/04) -/

/-- The five hold kinds, in the code order of 10.9 (R72). -/
inductive HoldKind where
  | disabled | soldOut | jammed | safety | noMotor
  deriving DecidableEq, Repr

/-- A hold set: one bit per hold kind, in code order (R72, 10.9). -/
abbrev HoldSet := BitVec 5

/-- The settings part of a selection entry (R72). The spirals lie in the selection's own row: `column`, and
`column + 1` beside it for a pair. -/
structure SelSettings where
  price      : Nat
  column     : Fin 10
  pair       : Bool
  domain     : Fin 4
  perishable : Bool
  protect    : Bool
  deriving DecidableEq, Repr

/-- The running part of a selection entry (R72); `stock` absent is UNTRACKED. -/
structure SelRun where
  stock     : Option Nat
  noDropRun : Nat
  saleCount : BitVec 16
  holds     : HoldSet
  deriving DecidableEq, Repr

/-- The cooling class of a row (R73). -/
inductive Zone where
  | ambient | chilled
  deriving DecidableEq, Repr

/-! ## Coins and tubes (spec/02) -/

/-- A coin type (R30); `dest` absent is CASHBOX_ONLY. -/
structure CoinType where
  enabled : Bool
  value   : Nat
  fMin    : Nat
  fMax    : Nat
  aMin    : Nat
  aMax    : Nat
  dest    : Option TubeNo
  deriving DecidableEq, Repr

/-- An accepted coin not yet confirmed (R33, R35); `route` absent is the cashbox, `fill` tells a fill coin. -/
structure InFlight where
  type     : CoinTypeNo
  value    : Nat
  route    : Option TubeNo
  fill     : Bool
  deadline : Nat
  deriving DecidableEq, Repr

/-- The baseline: count and amplitude with no coin present (R28). The width of a gate's count is the model's choice: 16 bits,
as the field of READ_TUBES (log 42). -/
structure Baseline where
  count : BitVec 16
  amp   : BitVec 12
  deriving DecidableEq, Repr

/-- A coin passage in progress: the lowest gate count and the lowest amplitude so far, and the end of the 2 ms gate that is
running (R29; log 17). -/
structure Passage where
  lowCount : Option (BitVec 16)
  lowAmp   : BitVec 12
  gateEnd  : Nat
  deriving DecidableEq, Repr

/-- The coin front end (R28, R29, R34, R35, R40). `nextMark` is the 1 s mark of the measurement due next, `gateSpoiled` tells
that a passage began while its gate was running (R28; log 43). `gateEnd` is the end of the accept gate's open period. -/
structure CoinFront where
  baseline    : Option Baseline
  nextMark    : Nat
  gateSpoiled : Bool
  passage     : Option Passage
  inFlight    : List InFlight
  rejectCount : Nat
  periodEnd   : Nat
  lockoutEnd  : Option Nat
  gateEnd     : Option Nat
  divert      : Bool
  deriving DecidableEq, Repr

/-- The settings part of a tube record (R41). -/
structure TubeSettings where
  enabled  : Bool
  value    : Nat
  capacity : Nat
  fullMark : Nat
  lowMark  : Nat
  floor    : Nat
  deriving DecidableEq, Repr

/-- The running part of a tube record (R41): count and sensors (true is COVERED). -/
structure TubeRun where
  count : Nat
  full  : Bool
  low   : Bool
  deriving DecidableEq, Repr

/-! ## Planner and payout (spec/03) -/

/-- The pass that produced a plan (R50). -/
inductive Pass where
  | one | two | under
  deriving DecidableEq, Repr

/-- A plan: for each denomination, largest first, its value and its number of coins (R50, R52). -/
structure Plan where
  counts : List (Nat × Nat)
  pass   : Pass
  owed   : Nat
  deriving DecidableEq, Repr

/-- The kind of a payout (R56). -/
inductive PayKind where
  | session | dispense
  deriving DecidableEq, Repr

/-- The payout engine's states (R56). -/
inductive PayState where
  | planning | waitGrant | ejecting | hold | done
  deriving DecidableEq, Repr

/-- A coin in ejection (R56, R59): the current tube, its pulse count, whether the ejector is driven now, when
the coin was seen at the exit, and when pulse and window end. -/
structure Ejection where
  tube      : TubeNo
  pulse     : Nat
  driven    : Bool
  seenAt    : Option Nat
  pulseEnd  : Nat
  windowEnd : Nat
  deriving DecidableEq, Repr

/-- The last tube with the kind and origin link of the payout that pulsed it (R56, R63). -/
structure LastTube where
  tube   : TubeNo
  kind   : PayKind
  origin : Link
  deriving DecidableEq, Repr

/-- The payout record (R56). `remaining` is for SESSION, `coins` for DISPENSE. `answer` is what the planner will
return at the end of PLANNING (R57); `nextAt` is when the next coin's pulse begins (R59); the three pending
flags wait for the end of PLANNING or of a window (R66, R69, R70). -/
structure Payout where
  kind           : Option PayKind
  origin         : Link
  requested      : Nat
  tube           : Option TubeNo
  plan           : Option Plan
  remaining      : List (Nat × Nat)
  coins          : Nat
  paid           : Nat
  state          : PayState
  current        : Option Ejection
  last           : Option LastTube
  answer         : Option Plan
  nextAt         : Option Nat
  holdPending    : Bool
  restartPending : Bool
  releasePending : Bool
  deriving DecidableEq, Repr

/-! ## Spiral drive (spec/05) -/

/-- A motion profile (R96): ramp in ms, duty in per cent. -/
structure Profile where
  ramp  : Nat
  duty  : Nat
  extra : Nat
  deriving DecidableEq, Repr

/-- The drive's phases (R95). -/
inductive DrivePhase where
  | idle | start | run | brake | window | probeWait | probing
  deriving DecidableEq, Repr

/-- How far a cam has come in the present turn (R95). -/
inductive CamState where
  | away | left | homed
  deriving DecidableEq, Repr

/-- The failure that waits for the end of a brake (R95). -/
inductive PendingFailure where
  | noStart | jam
  deriving DecidableEq, Repr

/-- The order the drive serves: the fields of R95 that are present together. -/
structure Service where
  order    : Nat
  spirals  : Spirals
  profile  : Profile
  dropSeen : Bool
  deriving DecidableEq, Repr

/-- A running short-brake (R94): its spirals, its end, and whether it belongs to the order in service or was
left by an order that SOFT_RESTART stopped (R111). -/
structure Brake where
  spirals : Spirals
  till    : Nat
  owned   : Bool
  deriving DecidableEq, Repr

/-- The drive record (R95). -/
structure Drive where
  phase       : DrivePhase
  service     : Option Service
  cams        : List CamState
  pending     : Option PendingFailure
  brake       : Option Brake
  turnStart   : Nat
  openChecked : Bool
  windowEnd   : Option Nat
  probePos    : Option Pos
  probeResult : Option (Vector Bool 80)
  stepEnd     : Option Nat
  deriving DecidableEq, Repr

/-- The late-drop record (R104). -/
structure LateDrop where
  id      : Nat
  price   : Nat
  funding : Funding
  origin  : Link
  expiry  : Nat
  deriving DecidableEq, Repr

/-! ## Cooling and safety (spec/07, 08) -/

/-- A thermistor: status, run of bad or good readings, filtered temperature in tenths, last raw reading
(R127, R129, R146). -/
structure Sensor where
  fault    : Bool
  count    : Nat
  filtered : Option Int
  raw      : Option (BitVec 12)
  deriving DecidableEq, Repr

/-- The two thermistors, in the subject code order of 10.9. -/
inductive SensorName where
  | zone | evap
  deriving DecidableEq, Repr

/-- The compressor state machine (R132), in the code order of 10.9. -/
inductive CoolState where
  | off | startDelay | idle | waitGrant | running | minOff | defrost | drain | fallback
  deriving DecidableEq, Repr

/-- The fallback phases (R132). -/
inductive FbPhase where
  | fbOff | fbWait | fbOn
  deriving DecidableEq, Repr

/-- The cooling effort (R132). -/
inductive CoolMode where
  | normal | setback
  deriving DecidableEq, Repr

/-- How the evaporator is defrosted (R132). -/
inductive DefrostType where
  | heater | offCycle
  deriving DecidableEq, Repr

/-- What ends a defrost (R131, R141). -/
inductive DefrostCause where
  | temp | time
  deriving DecidableEq, Repr

/-- The cooling settings (R132); temperatures in tenths of a degree. -/
structure CoolingSettings where
  base         : Int
  hysteresis   : Int
  defrostType  : DefrostType
  intervalH    : Nat
  terminate    : Int
  safetyLimit  : Int
  safetyDelay  : Nat
  setbackOff   : Int
  setbackDelay : Nat
  enable       : Bool
  deriving DecidableEq, Repr

/-- The running fields of the cooling record (R132); times in ms since power-on. The relay COMP is closed exactly
while `runStart` is present. -/
structure Cooling where
  state        : CoolState
  fallback     : Option FbPhase
  fbStart      : Option Nat
  mode         : CoolMode
  effective    : Int
  zone         : Sensor
  evap         : Sensor
  accumulated  : Nat
  lastStop     : Option Nat
  runStart     : Option Nat
  resized      : Bool
  pullDown     : Bool
  requested    : Bool
  defrostKind  : Option DefrostType
  defrostStart : Option Nat
  drainStart   : Option Nat
  heat         : Bool
  setbackEnd   : Option Nat
  nextZone     : Nat
  nextEvap     : Nat
  deriving DecidableEq, Repr

/-- The safety monitor's states (R148). -/
inductive SafetyState where
  | clear | timing | held
  deriving DecidableEq, Repr

/-- Why the hold was placed, in the subject code order of 10.9 (R148). -/
inductive SafetyCause where
  | temp | sensor | powerUp | coolingOff
  deriving DecidableEq, Repr

/-- The safety record (R148); `check` is true while the power-on check is pending. -/
structure Safety where
  state     : SafetyState
  excursion : Nat
  cause     : Option SafetyCause
  peak      : Option Int
  check     : Bool
  deriving DecidableEq, Repr

/-! ## Load (spec/09) -/

/-- The owners of claims (R156). -/
inductive Owner where
  | vend | payout | compressor | heater | lighting | probe
  deriving DecidableEq, Repr

/-- A claim (R156). Its class is a function of its owner, its arrival position is its place in the list. -/
structure Claim where
  owner    : Owner
  size     : Nat
  promoted : Bool
  granted  : Bool
  placedAt : Nat
  deriving DecidableEq, Repr

/-- The supply states (R163). -/
inductive SupplyState where
  | good | low | powerFail
  deriving DecidableEq, Repr

/-- Budgets and claim sizes (R156, R162, R165). -/
structure BudgetSettings where
  normal   : Nat
  low      : Nat
  motor    : Nat
  probe    : Nat
  payout   : Nat
  start    : Nat
  run      : Nat
  heater   : Nat
  lighting : Nat
  deriving DecidableEq, Repr

/-! ## Links and notices (spec/10) -/

/-- The roles, in the bit order of 10.9 (R167). -/
inductive Role where
  | sell | card | remote | audit | config | service
  deriving DecidableEq, Repr

/-- The error flags, in the bit order of 10.9 (R167). -/
inductive ErrFlag where
  | sync | framing | length | crc | gap | backlog
  deriving DecidableEq, Repr

/-- The link settings (R167). Sets are held one bit per member, in the code order of 10.9. -/
structure LinkSettings where
  roles   : BitVec 6
  domains : BitVec 4
  mask    : BitVec 17
  mirror  : Bool
  attnNotices : Bool
  attnErrors  : Bool
  deriving DecidableEq, Repr

/-- The receive state with the bytes of the frame kept so far (R167, R169). -/
inductive RxState where
  | awaitSync
  | kind
  | length (kind : Byte)
  | body (kind : Byte) (len : Nat) (got : List Byte)
  | crcLo (kind : Byte) (body : List Byte)
  | crcHi (kind : Byte) (body : List Byte) (lo : Byte)
  deriving DecidableEq, Repr

/-- A response: the kind of its frame and its body, status first (R171). -/
structure Response where
  kind : Byte
  body : List Byte
  deriving DecidableEq, Repr

/-- Reasons of CREDIT notices (R12). -/
inductive CreditReason where
  | coin | sale | payout | session
  deriving DecidableEq, Repr

/-- Reasons of COIN_REJECT notices (R32, R38, R39, R40). -/
inductive RejectReason where
  | lockout | noMatch | door | session | limit | busy | unexpected | lost
  deriving DecidableEq, Repr

/-- Reasons of SAFETY notices (R154). -/
inductive SafetyReason where
  | timing | clear | held | released
  deriving DecidableEq, Repr

/-- Reasons of SYSTEM notices (10.9). -/
inductive SystemReason where
  | powerUp | restart | settingsLost | settingsSaved | dropFault | dropOk | probeDone
  deriving DecidableEq, Repr

/-- Reasons of PAYOUT notices (R64). -/
inductive PayoutReason where
  | done | restart | dry | ended | surplus
  deriving DecidableEq, Repr

/-- The COOLING notices (R131), each with the subject and value its row gives it. -/
inductive CoolingNotice where
  | sensorFault (sensor : SensorName) (reading : Nat)
  | sensorOk (sensor : SensorName) (temp : Int)
  | pullDown (temp : Option Int)
  | defrostStart (kind : DefrostType) (temp : Int)
  | defrostEnd (cause : DefrostCause) (temp : Int)
  | setback (setpoint : Int)
  | normal (setpoint : Int)
  | disabled (temp : Int)
  | enabled (temp : Int)
  deriving DecidableEq, Repr

/-- What a notice says: one constructor for each kind of 10.9, with its subject, value and reason. -/
inductive NoticeBody where
  | credit (session : Session) (cash : Nat) (reason : CreditReason)
  | coin (route : Option TubeNo) (value : Nat) (fill : Bool)
  | coinReject (type : Option CoinTypeNo) (value : Nat) (reason : RejectReason)
  | exactChange (value : Nat) (set : Bool)
  | selectionHold (sel : Sel) (holds : HoldSet) (kind : HoldKind)
  | cooling (what : CoolingNotice)
  | safety (subject : Option SafetyCause) (temp : Int) (reason : SafetyReason)
  | door (isOpen : Bool)
  | service (link : Link) (taken : Bool)
  | supply (level : Nat) (budget : Nat) (good : Bool)
  | system (reason : SystemReason) (value : Nat)
  | orderState (id : Nat) (sel : Sel) (state : OrderState)
  | vendResult (id : Nat) (price : Nat) (reason : EndReason)
  | payout (subject : Nat) (value : Nat) (reason : PayoutReason)
  | approvalNeeded (id : Nat) (price : Nat)
  | cardEnd (link : Link) (funds : Nat) (reason : CloseReason)
  | lateDrop (id : Nat) (price : Nat) (funding : Funding)
  deriving DecidableEq, Repr

/-- A notice in a queue (R178): `source` is present exactly when it is a mirrored copy. -/
structure Notice where
  body   : NoticeBody
  source : Option Link
  deriving DecidableEq, Repr

/-- The running part of a link record (R167). -/
structure LinkPort where
  rx       : RxState
  errors   : BitVec 6
  backlog  : List Response
  notices  : List Notice
  overflow : Bool
  deriving DecidableEq, Repr

/-! ## Settings, counters and the store (spec/01 R8, spec/11) -/

/-- The sales settings (R8). -/
structure SalesSettings where
  creditLimit     : Nat
  horizon         : Nat
  forceVend       : Bool
  multiVend       : Bool
  rejectThreshold : Nat
  cardIdle        : Nat
  ambient         : Profile
  chilled         : Profile
  deriving DecidableEq, Repr

/-- Everything the settings region holds (R190). -/
structure Settings where
  sels    : Vector SelSettings 80
  zones   : Vector Zone 8
  coins   : Vector CoinType 8
  tubes   : Vector TubeSettings 5
  cooling : CoolingSettings
  budget  : BudgetSettings
  links   : Vector LinkSettings 3
  sales   : SalesSettings
  deriving DecidableEq, Repr

/-- The sixteen audit counters, in the order of READ_AUDIT's two groups (R188, 10.9). -/
inductive Counter where
  | cashIn | toTubes | toCashbox | cashSales | cardSales | remoteSales | paidOut | payoutSurplus
  | tubeFill | tubeDispense | adjustUp | adjustDown | coinsLost | lateDrops | vends | vendFails
  deriving DecidableEq, Repr

/-- One copy of the counters (R188). -/
abbrev Counters := Vector (BitVec 32) 16

/-- Everything the running region holds (R190). In `sels` the hold sets hold DISABLED, SOLD_OUT and JAMMED alone. -/
structure Running where
  cash        : Nat
  counts      : Vector Nat 5
  lifetime    : Counters
  interim     : Counters
  sels        : Vector SelRun 80
  accumulated : Nat
  safety      : SafetyState
  cause       : Option SafetyCause
  deriving DecidableEq, Repr

/-- A stored region: contents and the CRC that closes them, as a write left them, or `torn`, what a write cut short leaves
(R190, R192; log 6). -/
inductive Region (α : Type) where
  | written (contents : α) (crc : Word16)
  | torn
  deriving DecidableEq, Repr

/-- The settings store (R190, R191, R192): the two regions, the snapshot of a save in progress, and the contents
of the running region being written at a stop. -/
structure Store where
  settings : Region Settings
  running  : Region Running
  saving   : Option Settings
  stopping : Option Running
  deriving DecidableEq, Repr

/-- The part runs, writes its regions at a stop, or stands stopped (R164, R192). -/
inductive PowerPhase where
  | running | saving | stopped
  deriving DecidableEq, Repr

end Sys2Proof.Machine
end

