-- ==== Sys2Proof/Machine/Codec.lean ====
section
/-! DEFINITION. Codes and layouts of spec/10 (10.9): little-endian fields, statuses, notice entries, frames and the CRC
of R168. -/

namespace Sys2Proof.Machine

/-! ## Fields -/

/-- One byte. -/
def byte (n : Nat) : Byte := BitVec.ofNat 8 n
/-- A two-byte field, least significant byte first (00, section 6.4). -/
def le16 (n : Nat) : List Byte := [byte n, byte (n / 256)]
/-- A three-byte field. -/
def le24 (n : Nat) : List Byte := [byte n, byte (n / 256), byte (n / 65536)]
/-- A four-byte field. -/
def le32 (n : Nat) : List Byte := [byte n, byte (n / 256), byte (n / 65536), byte (n / 16777216)]
/-- A temperature: signed 16-bit tenths (10.9). -/
def temp16 (t : Int) : List Byte := le16 (BitVec.ofInt 16 t).toNat
/-- A temperature that may be absent: 0x8000 (10.9). -/
def tempOpt16 : Option Int → List Byte
  | some t => temp16 t
  | none => le16 0x8000
/-- A flag as a number. -/
def bit (b : Bool) : Nat := if b then 1 else 0
/-- A set of flags, first flag in the lowest bit (10.9). -/
def bits : List Bool → Nat
  | [] => 0
  | b :: bs => bit b + 2 * bits bs

/-- A two-byte field read from its bytes. -/
def word16 (lo hi : Byte) : Word16 := hi ++ lo
/-- A three-byte field read from its bytes. -/
def word24 (b0 b1 b2 : Byte) : BitVec 24 := b2 ++ b1 ++ b0

/-! ## Codes, counted from 0 in the order 10.9 lists them -/

/-- Session codes. -/
def Session.code : Session → Nat
  | .idle => 0 | .cash => 1 | .card => 2 | .cardClosing => 3 | .remote => 4
/-- Order state codes. -/
def OrderState.code : OrderState → Nat
  | .waitApproval => 0 | .ready => 1 | .waitGrant => 2 | .turning => 3 | .done => 4 | .failed => 5 | .cancelled => 6
/-- Funding codes. -/
def Funding.code : Funding → Nat
  | .cash => 0 | .card => 1 | .remote => 2 | .test => 3
/-- End reason codes. -/
def EndReason.code : EndReason → Nat
  | .done => 0 | .noDrop => 1 | .jam => 2 | .noStart => 3 | .noMotor => 4 | .held => 5 | .denied => 6
  | .approvalTimeout => 7 | .cancelled => 8 | .safety => 9 | .door => 10 | .restart => 11 | .cardClosed => 12
/-- Hold kind codes. -/
def HoldKind.code : HoldKind → Nat
  | .disabled => 0 | .soldOut => 1 | .jammed => 2 | .safety => 3 | .noMotor => 4
/-- Role codes. -/
def Role.code : Role → Nat
  | .sell => 0 | .card => 1 | .remote => 2 | .audit => 3 | .config => 4 | .service => 5
/-- Error flag bits. -/
def ErrFlag.code : ErrFlag → Nat
  | .sync => 0 | .framing => 1 | .length => 2 | .crc => 3 | .gap => 4 | .backlog => 5
/-- Zone codes. -/
def Zone.code : Zone → Nat
  | .ambient => 0 | .chilled => 1
/-- Compressor state codes. -/
def CoolState.code : CoolState → Nat
  | .off => 0 | .startDelay => 1 | .idle => 2 | .waitGrant => 3 | .running => 4 | .minOff => 5 | .defrost => 6
  | .drain => 7 | .fallback => 8
/-- Fallback phase codes. -/
def FbPhase.code : FbPhase → Nat
  | .fbOff => 0 | .fbWait => 1 | .fbOn => 2
/-- Cooling mode codes. -/
def CoolMode.code : CoolMode → Nat
  | .normal => 0 | .setback => 1
/-- Defrost type codes. -/
def DefrostType.code : DefrostType → Nat
  | .heater => 0 | .offCycle => 1
/-- Sensor subjects of COOLING. -/
def SensorName.code : SensorName → Nat
  | .zone => 0 | .evap => 1
/-- Defrost end subjects of COOLING. -/
def DefrostCause.code : DefrostCause → Nat
  | .temp => 0 | .time => 1
/-- Causes of SAFETY. -/
def SafetyCause.code : SafetyCause → Nat
  | .temp => 0 | .sensor => 1 | .powerUp => 2 | .coolingOff => 3
/-- Reasons of CREDIT. -/
def CreditReason.code : CreditReason → Nat
  | .coin => 0 | .sale => 1 | .payout => 2 | .session => 3
/-- Reasons of COIN_REJECT. -/
def RejectReason.code : RejectReason → Nat
  | .lockout => 0 | .noMatch => 1 | .door => 2 | .session => 3 | .limit => 4 | .busy => 5 | .unexpected => 6
  | .lost => 7
/-- Reasons of SAFETY. -/
def SafetyReason.code : SafetyReason → Nat
  | .timing => 0 | .clear => 1 | .held => 2 | .released => 3
/-- Reasons of SYSTEM. -/
def SystemReason.code : SystemReason → Nat
  | .powerUp => 0 | .restart => 1 | .settingsLost => 2 | .settingsSaved => 3 | .dropFault => 4 | .dropOk => 5
  | .probeDone => 6
/-- Reasons of PAYOUT. -/
def PayoutReason.code : PayoutReason → Nat
  | .done => 0 | .restart => 1 | .dry => 2 | .ended => 3 | .surplus => 4
/-- Reasons of CARD_END. -/
def CloseReason.code : CloseReason → Nat
  | .closed => 0 | .expired => 1 | .linkReset => 2 | .restart => 3
/-- Places of the counters in READ_AUDIT, group 0 first. -/
def Counter.code : Counter → Fin 16
  | .cashIn => 0 | .toTubes => 1 | .toCashbox => 2 | .cashSales => 3 | .cardSales => 4 | .remoteSales => 5
  | .paidOut => 6 | .payoutSurplus => 7 | .tubeFill => 8 | .tubeDispense => 9 | .adjustUp => 10
  | .adjustDown => 11 | .coinsLost => 12 | .lateDrops => 13 | .vends => 14 | .vendFails => 15

/-! ## Statuses -/

/-- The response statuses of 10.9. -/
inductive Status where
  | ok | accepted | unknownKind | badArg | role | privilege | state | insufficient | queueFull | held | stock
  | domain | doorOpen | doorClosed | busy | tooLate | notFound | isProtected | forceVend | conflict
  deriving DecidableEq, Repr

/-- Status codes (10.9). -/
def Status.code : Status → Byte
  | .ok => 0x00 | .accepted => 0x01 | .unknownKind => 0x10 | .badArg => 0x11 | .role => 0x12 | .privilege => 0x13
  | .state => 0x20 | .insufficient => 0x21 | .queueFull => 0x22 | .held => 0x23 | .stock => 0x24 | .domain => 0x25
  | .doorOpen => 0x26 | .doorClosed => 0x27 | .busy => 0x28 | .tooLate => 0x29 | .notFound => 0x2A
  | .isProtected => 0x2B | .forceVend => 0x2C | .conflict => 0x2D

/-! ## Notices -/

/-- Kind codes of the notices (10.9). -/
def NoticeBody.kind : NoticeBody → Nat
  | .credit .. => 0 | .coin .. => 1 | .coinReject .. => 2 | .exactChange .. => 3 | .selectionHold .. => 4
  | .cooling .. => 5 | .safety .. => 6 | .door .. => 7 | .service .. => 8 | .supply .. => 9 | .system .. => 10
  | .orderState .. => 11 | .vendResult .. => 12 | .payout .. => 13 | .approvalNeeded .. => 14 | .cardEnd .. => 15
  | .lateDrop .. => 16

/-- The absent subject (10.9). -/
def absent : Nat := 0xFFFF

/-- Subjects of COOLING (10.9, R131). -/
def CoolingNotice.subject : CoolingNotice → Nat
  | .sensorFault s _ => s.code
  | .sensorOk s _ => s.code
  | .pullDown _ => SensorName.zone.code
  | .defrostStart k _ => k.code
  | .defrostEnd c _ => c.code
  | .setback _ => absent
  | .normal _ => absent
  | .disabled _ => absent
  | .enabled _ => absent

/-- Values of COOLING (R131). -/
def CoolingNotice.value : CoolingNotice → List Byte
  | .sensorFault _ a => le16 a
  | .sensorOk _ t => temp16 t
  | .pullDown t => tempOpt16 t
  | .defrostStart _ t => temp16 t
  | .defrostEnd _ t => temp16 t
  | .setback t => temp16 t
  | .normal t => temp16 t
  | .disabled t => temp16 t
  | .enabled t => temp16 t

/-- Reasons of COOLING (10.9). -/
def CoolingNotice.reason : CoolingNotice → Nat
  | .sensorFault .. => 0 | .sensorOk .. => 1 | .pullDown .. => 2 | .defrostStart .. => 3 | .defrostEnd .. => 4
  | .setback .. => 5 | .normal .. => 6 | .disabled .. => 7 | .enabled .. => 8

/-- The subject of a notice (10.9). -/
def NoticeBody.subject : NoticeBody → Nat
  | .credit ses _ _ => ses.code
  | .coin r _ _ => match r with | some t => t.val | none => 5
  | .coinReject t _ _ => match t with | some t => t.val | none => absent
  | .exactChange .. => absent
  | .selectionHold i _ _ => i.val
  | .cooling c => c.subject
  | .safety c _ _ => match c with | some c => c.code | none => absent
  | .door _ => absent
  | .service l _ => l.val
  | .supply lv _ _ => lv
  | .system .. => absent
  | .orderState id _ _ => id
  | .vendResult id _ _ => id
  | .payout s _ _ => s
  | .approvalNeeded id _ => id
  | .cardEnd l _ _ => l.val
  | .lateDrop id _ _ => id

/-- The value of a notice as its two bytes (10.9). -/
def NoticeBody.value : NoticeBody → List Byte
  | .credit _ c _ => le16 c
  | .coin _ v _ => le16 v
  | .coinReject _ v _ => le16 v
  | .exactChange v _ => le16 v
  | .selectionHold _ h _ => le16 h.toNat
  | .cooling c => c.value
  | .safety _ t _ => temp16 t
  | .door _ => le16 0
  | .service .. => le16 0
  | .supply _ b _ => le16 b
  | .system _ v => le16 v
  | .orderState _ i _ => le16 i.val
  | .vendResult _ p _ => le16 p
  | .payout _ v _ => le16 v
  | .approvalNeeded _ p => le16 p
  | .cardEnd _ f _ => le16 f
  | .lateDrop _ p _ => le16 p

/-- The reason code of a notice (10.9). -/
def NoticeBody.reason : NoticeBody → Nat
  | .credit _ _ r => r.code
  | .coin _ _ fill => bit fill
  | .coinReject _ _ r => r.code
  | .exactChange _ set => if set then 0 else 1
  | .selectionHold _ _ k => k.code
  | .cooling c => c.reason
  | .safety _ _ r => r.code
  | .door isOpen => if isOpen then 0 else 1
  | .service _ taken => if taken then 0 else 1
  | .supply _ _ good => if good then 0 else 1
  | .system r _ => r.code
  | .orderState _ _ st => st.code
  | .vendResult _ _ r => r.code
  | .payout _ _ r => r.code
  | .approvalNeeded .. => 0
  | .cardEnd _ _ r => r.code
  | .lateDrop _ _ f => f.code

/-- A notice entry: kind, subject, value, reason, source link or 0xFF (10.9). -/
def Notice.entry (n : Notice) : List Byte :=
  [byte n.body.kind] ++ le16 n.body.subject ++ n.body.value ++
    [byte n.body.reason, match n.source with | some l => byte l.val | none => 0xFF]

/-! ## CRC and frames -/

/-- One bit of the CRC: polynomial 0x1021, most significant bit first (R168). -/
def crcBit (c : BitVec 16) : BitVec 16 :=
  if c.msb then (c <<< 1) ^^^ 0x1021 else c <<< 1

/-- One byte of the CRC (R168). -/
def crcByte (c : BitVec 16) (b : Byte) : BitVec 16 :=
  let c0 := c ^^^ (b.setWidth 16 <<< 8)
  crcBit (crcBit (crcBit (crcBit (crcBit (crcBit (crcBit (crcBit c0)))))))

/-- The CRC-16 of a list of bytes, initial value 0xFFFF (R168). -/
def crc16 (bs : List Byte) : BitVec 16 := bs.foldl crcByte 0xFFFF

/-- The sync byte (section 10.2). -/
def syncByte : Byte := 0xB5

/-- A frame as its bytes: sync, kind, length, body, CRC low byte first (10.9). -/
def frameOf (kind : Byte) (body : List Byte) : List Byte :=
  let covered := kind :: byte body.length :: body
  let c := crc16 covered
  syncByte :: covered ++ le16 c.toNat

/-- The frame of a response (R171). -/
def Response.frame (r : Response) : List Byte := frameOf r.kind r.body

/-- The kind of the response to a request of this kind: plus 0x80, modulo 256 (R171). -/
def responseKind (kind : Byte) : Byte := kind + 0x80

end Sys2Proof.Machine
end

