-- ==== Sys2Proof/Decode.lean ====
section
/-! DEFINITION. What spells a command. No row of spec/opcode_table.json gives bits, so no table word spells one; on a link a
request is spelt by its kind and body (10.9): the catalogue, the bytes of a request, and the request of its bytes. -/

namespace Sys2Proof

/-- The command that a word spells by the table's bits: none, since no row of the table gives bits. -/
def decodeTableWord (_nbits _w : Nat) : Option Instr := none

open Machine

/-- The kind number of a request (10.9). -/
def Request.kind : Request → Byte
  | .ident => 0x01
  | .fetchNotices => 0x02
  | .linkStatus => 0x03
  | .clearLinkErrors _ => 0x04
  | .linkReset => 0x05
  | .order _ => 0x10
  | .cancelOrder _ => 0x11
  | .returnCredit => 0x12
  | .readCredit => 0x13
  | .readSelection _ => 0x14
  | .cardOpen _ => 0x20
  | .cardApprove _ _ => 0x21
  | .cardClose => 0x22
  | .remoteOrder _ => 0x28
  | .readAudit _ _ => 0x30
  | .readTubes => 0x31
  | .readCooling => 0x32
  | .clearInterim => 0x33
  | .setPrice _ _ => 0x40
  | .setSelection _ => 0x41
  | .setCoinType _ => 0x42
  | .setTube _ => 0x43
  | .setCooling _ => 0x44
  | .setBudget _ => 0x45
  | .setLink _ => 0x46
  | .setSales _ => 0x47
  | .saveSettings => 0x48
  | .serviceEnter => 0x50
  | .serviceLeave => 0x51
  | .clearHold _ _ => 0x52
  | .safetyRelease => 0x53
  | .protect _ _ => 0x54
  | .testTurn _ => 0x55
  | .tubeDispense _ _ => 0x56
  | .probeMotors => 0x57
  | .setTubeCount _ _ => 0x58
  | .forceDefrost => 0x59
  | .setOutputs _ => 0x5A
  | .softRestart => 0x5B

/-- The body of a request, its fields in the order of the catalogue (10.9). -/
def Request.body : Request → List Byte
  | .ident => []
  | .fetchNotices => []
  | .linkStatus => []
  | .clearLinkErrors mask => [mask]
  | .linkReset => []
  | .order sel => [sel]
  | .cancelOrder id => [id]
  | .returnCredit => []
  | .readCredit => []
  | .readSelection sel => [sel]
  | .cardOpen funds => le16 funds.toNat
  | .cardApprove id decision => [id, decision]
  | .cardClose => []
  | .remoteOrder sel => [sel]
  | .readAudit copy group => [copy, group]
  | .readTubes => []
  | .readCooling => []
  | .clearInterim => []
  | .setPrice sel price => [sel] ++ le16 price.toNat
  | .setSelection a =>
    [a.sel] ++ le16 a.price.toNat ++ [a.column, a.pair, a.domain, a.perishable, a.stock, a.available]
  | .setCoinType a =>
    [a.type, a.enabled] ++ le16 a.value.toNat ++ le16 a.fMin.toNat ++ le16 a.fMax.toNat ++ [a.aMin, a.aMax, a.dest]
  | .setTube a =>
    [a.tube, a.enabled] ++ le16 a.value.toNat ++ [a.capacity, a.fullMark, a.lowMark, a.floor]
  | .setCooling a =>
    le16 a.base.toNat ++ le16 a.hysteresis.toNat ++ [a.defrostType, a.interval] ++ le16 a.terminate.toNat ++
      le16 a.safetyLimit.toNat ++ [a.safetyDelay] ++ le16 a.setbackOff.toNat ++ [a.setbackDelay, a.enable, a.zones]
  | .setBudget a =>
    [a.normal, a.low, a.motor, a.probe, a.payout, a.start, a.run, a.heater, a.lighting]
  | .setLink a =>
    [a.link, a.roles, a.domains] ++ le24 a.mask.toNat ++ [a.mirror, a.enables]
  | .setSales a =>
    le16 a.creditLimit.toNat ++ le16 a.horizon.toNat ++ [a.forceVend, a.multiVend, a.rejectThreshold, a.cardIdle] ++
      le16 a.ambient.ramp.toNat ++ [a.ambient.duty, a.ambient.extra] ++ le16 a.chilled.ramp.toNat ++ [a.chilled.duty, a.chilled.extra]
  | .saveSettings => []
  | .serviceEnter => []
  | .serviceLeave => []
  | .clearHold sel kind => [sel, kind]
  | .safetyRelease => []
  | .protect sel value => [sel, value]
  | .testTurn sel => [sel]
  | .tubeDispense tube coins => [tube, coins]
  | .probeMotors => []
  | .setTubeCount tube count => [tube, count]
  | .forceDefrost => []
  | .setOutputs value => [value]
  | .softRestart => []

/-- The body length that the catalogue gives a kind; none for a kind outside it (R173, 10.9). -/
def bodyLength (kind : Byte) : Option Nat :=
  match kind.toNat with
  | 0x01 => some 0
  | 0x02 => some 0
  | 0x03 => some 0
  | 0x04 => some 1
  | 0x05 => some 0
  | 0x10 => some 1
  | 0x11 => some 1
  | 0x12 => some 0
  | 0x13 => some 0
  | 0x14 => some 1
  | 0x20 => some 2
  | 0x21 => some 2
  | 0x22 => some 0
  | 0x28 => some 1
  | 0x30 => some 2
  | 0x31 => some 0
  | 0x32 => some 0
  | 0x33 => some 0
  | 0x40 => some 3
  | 0x41 => some 9
  | 0x42 => some 11
  | 0x43 => some 8
  | 0x44 => some 16
  | 0x45 => some 9
  | 0x46 => some 8
  | 0x47 => some 16
  | 0x48 => some 0
  | 0x50 => some 0
  | 0x51 => some 0
  | 0x52 => some 2
  | 0x53 => some 0
  | 0x54 => some 2
  | 0x55 => some 1
  | 0x56 => some 2
  | 0x57 => some 0
  | 0x58 => some 2
  | 0x59 => some 0
  | 0x5A => some 1
  | 0x5B => some 0
  | _ => none

/-- The request of a kind of the catalogue, its fields read from a body of the right length (10.9). -/
def Request.ofBody (kind : Byte) (body : List Byte) : Option Request :=
  let b (i : Nat) : Byte := body.getD i 0
  let w (i : Nat) : Word16 := word16 (b i) (b (i + 1))
  match kind.toNat with
  | 0x01 => some .ident
  | 0x02 => some .fetchNotices
  | 0x03 => some .linkStatus
  | 0x04 => some (.clearLinkErrors (b 0))
  | 0x05 => some .linkReset
  | 0x10 => some (.order (b 0))
  | 0x11 => some (.cancelOrder (b 0))
  | 0x12 => some .returnCredit
  | 0x13 => some .readCredit
  | 0x14 => some (.readSelection (b 0))
  | 0x20 => some (.cardOpen (w 0))
  | 0x21 => some (.cardApprove (b 0) (b 1))
  | 0x22 => some .cardClose
  | 0x28 => some (.remoteOrder (b 0))
  | 0x30 => some (.readAudit (b 0) (b 1))
  | 0x31 => some .readTubes
  | 0x32 => some .readCooling
  | 0x33 => some .clearInterim
  | 0x40 => some (.setPrice (b 0) (w 1))
  | 0x41 => some (.setSelection
      { sel := b 0, price := w 1, column := b 3, pair := b 4, domain := b 5, perishable := b 6, stock := b 7,
        available := b 8 })
  | 0x42 => some (.setCoinType
      { type := b 0, enabled := b 1, value := w 2, fMin := w 4, fMax := w 6, aMin := b 8, aMax := b 9,
        dest := b 10 })
  | 0x43 => some (.setTube
      { tube := b 0, enabled := b 1, value := w 2, capacity := b 4, fullMark := b 5, lowMark := b 6,
        floor := b 7 })
  | 0x44 => some (.setCooling
      { base := w 0, hysteresis := w 2, defrostType := b 4, interval := b 5, terminate := w 6, safetyLimit := w 8,
        safetyDelay := b 10, setbackOff := w 11, setbackDelay := b 13, enable := b 14, zones := b 15 })
  | 0x45 => some (.setBudget
      { normal := b 0, low := b 1, motor := b 2, probe := b 3, payout := b 4, start := b 5, run := b 6,
        heater := b 7, lighting := b 8 })
  | 0x46 => some (.setLink
      { link := b 0, roles := b 1, domains := b 2, mask := word24 (b 3) (b 4) (b 5), mirror := b 6,
        enables := b 7 })
  | 0x47 => some (.setSales
      { creditLimit := w 0, horizon := w 2, forceVend := b 4, multiVend := b 5, rejectThreshold := b 6,
        cardIdle := b 7, ambient := { ramp := w 8, duty := b 10, extra := b 11 },
        chilled := { ramp := w 12, duty := b 14, extra := b 15 } })
  | 0x48 => some .saveSettings
  | 0x50 => some .serviceEnter
  | 0x51 => some .serviceLeave
  | 0x52 => some (.clearHold (b 0) (b 1))
  | 0x53 => some .safetyRelease
  | 0x54 => some (.protect (b 0) (b 1))
  | 0x55 => some (.testTurn (b 0))
  | 0x56 => some (.tubeDispense (b 0) (b 1))
  | 0x57 => some .probeMotors
  | 0x58 => some (.setTubeCount (b 0) (b 1))
  | 0x59 => some .forceDefrost
  | 0x5A => some (.setOutputs (b 0))
  | 0x5B => some .softRestart
  | _ => none

/-- The request a complete frame spells: its kind is in the catalogue and its body has that kind's length (R173, checks 1
and 2). -/
def Request.parse (kind : Byte) (body : List Byte) : Option Request :=
  if bodyLength kind = some body.length then Request.ofBody kind body else none

/-- The bytes of a request's frame (10.9). -/
def Request.frame (r : Request) : List Byte := frameOf r.kind r.body

end Sys2Proof
end

