-- ==== Sys2Proof/Config.lean ====
section
/-! DEFINITION. What the part fixes (times, thresholds, sizes of its lists) and the free values: constants
with no body for the results the manual does not state. -/

namespace Sys2Proof.Config

/-! ## Free values (log 8, 9, 10, 32): nothing constrains them beyond their range -/

/-- F of a coin whose passage completed no counting gate (R29 states no figure for it); log 8. -/
opaque freeCoinF : Nat → BitVec 12
/-- The two-byte field of READ_COOLING for an elapsed time above 65,534 s (10.9 states none); log 9. -/
opaque freeSeconds : Nat → BitVec 16
/-- `paid` of a dispense whose sum would leave 0…60,000 (R56, R69 state no figure); log 10. -/
opaque freePaid : Nat → Fin 60001
/-- Tracked stock after a success at stock 0, which a TEST order can bring about (R75 states no figure); log 32. -/
opaque freeStock : Nat → Fin 64

/-! ## Amounts and sizes -/

/-- Every amount is at most this many units (00, section 6.1). -/
def maxAmount : Nat := 60000
/-- The backlog holds at most this many responses (R167). -/
def backlogSize : Nat := 2
/-- A notice queue holds at most this many notices (R178). -/
def noticeQueueSize : Nat := 16
/-- FETCH_NOTICES removes up to this many (R180). -/
def fetchSize : Nat := 4
/-- The vend queue holds at most this many orders (R82). -/
def queueSize : Nat := 4
/-- The in-flight list holds at most this many coins (R35). -/
def inFlightSize : Nat := 2
/-- The lapsed-id list holds at most this many entries (R119). -/
def lapsedSize : Nat := 4
/-- The longest body of a frame (section 10.2). -/
def maxBody : Nat := 56

/-! ## Coin front end -/

/-- The presence threshold: a reading of COIN_AMP (R28). -/
def presenceThreshold : Nat := 3072
/-- A gate of the coin oscillator, 2 ms, and the time between the marks of its measurements, 1 s (R28). -/
def countGate : Nat := 2
def markPeriod : Nat := 1000
/-- The open period of the accept gate, 150 ms (R34). -/
def gateTime : Nat := 150
/-- The deadline of an in-flight coin, 300 ms (R33). -/
def coinDeadline : Nat := 300
/-- The reject period, 60 s (R40). -/
def rejectPeriod : Nat := 60000
/-- The slug lockout, 120 s (R40). -/
def lockoutTime : Nat := 120000

/-! ## Payout -/

/-- An ejector pulse, 40 ms (R59). -/
def pulseTime : Nat := 40
/-- The exit window closes this long after the pulse ends, 150 ms (R59). -/
def windowTime : Nat := 150
/-- The next pulse begins at least this long after an exit, 120 ms (R59). -/
def exitGap : Nat := 120

/-! ## Spiral drive (currents in mA) -/

/-- The open threshold of one driven spiral, 0.10 A (R94). -/
def openThreshold : Nat := 100
/-- The jam threshold of one driven spiral, 1.50 A (R94). -/
def jamThreshold : Nat := 1500
/-- The open check, 100 ms into a turn (R98). -/
def openCheckTime : Nat := 100
/-- The start limit, 500 ms into a turn (R99). -/
def startLimitTime : Nat := 500
/-- The turn limit, 4,000 ms into a turn (R100). -/
def turnLimitTime : Nat := 4000
/-- The short-brake, 100 ms (R96). -/
def brakeTime : Nat := 100
/-- The drop window, 1,500 ms (R101). -/
def dropWindow : Nat := 1500
/-- The late-drop record's life, 10 s (R104). -/
def lateDropTime : Nat := 10000
/-- One probe step, 50 ms (R109). -/
def probeStep : Nat := 50
/-- The duty at the start of a turn and in a probe step, per cent (R96, R109). -/
def startDuty : Nat := 30

/-! ## Card sessions -/

/-- The approval deadline of a CARD order, 10 s (R115). -/
def approvalTime : Nat := 10000

/-! ## Cooling and load -/

/-- The lowest and highest good ADC readings (R127). -/
def goodLow : Nat := 64
def goodHigh : Nat := 4031
/-- Bad readings that declare a fault, good readings that end it (R127). -/
def badRun : Nat := 3
def goodRun : Nat := 10
/-- The sampling period, 1 s (R127). -/
def samplePeriod : Nat := 1000
/-- The highest effective setpoint, 12.0 °C (R132). -/
def maxSetpoint : Int := 120
/-- The compressor's delay after a stop and after power-on, 180 s (R134, R135, R136). -/
def compressorDelay : Nat := 180000
/-- The least run before a stop, 60 s (R136). -/
def minRun : Nat := 60000
/-- The COMPRESSOR claim is cut this long after the relay closes, 2 s (R136). -/
def resizeTime : Nat := 2000
/-- The pull-down time, 120 min (R137). -/
def pullDownTime : Nat := 7200000
/-- The accumulated run time is held at 1,500 min (R132). -/
def maxRunTime : Nat := 90000000
/-- A defrost is forced at the interval plus 60 min (R139). -/
def forcedExtra : Nat := 3600000
/-- A defrost ends by TIME after 30 min (R141). -/
def defrostTime : Nat := 1800000
/-- DRAIN lasts 5 min (R142). -/
def drainTime : Nat := 300000
/-- FB_OFF lasts at least 15 min from a stop, FB_ON 10 min (R143). -/
def fbOffTime : Nat := 900000
def fbOnTime : Nat := 600000
/-- A COMPRESSOR claim is promoted after 60 s (R158). -/
def promotionTime : Nat := 60000
/-- One hour, one minute and one second in ms. -/
def hour : Nat := 3600000
def minute : Nat := 60000
def second : Nat := 1000

end Sys2Proof.Config
end

