-- ==== Sys2Proof/Machine/Factory.lean ====
section
/-! DEFINITION. The factory settings of spec/11 (section 11.6) and the power-on value of each block's record. -/

namespace Sys2Proof.Machine

/-- A table of false entries with entry `i` true where `p i`. -/
def flagsOf {n : Nat} (p : Fin n → Bool) : Vector Bool n := tabulate p

/-- Factory selection entry: 60,000 units, one spiral at its own row and column, domain 0 (11.6). -/
def factorySel (i : Sel) : SelSettings :=
  { price := 60000, column := ⟨i.val % 10, Nat.mod_lt _ (by decide)⟩, pair := false, domain := 0,
    perishable := false, protect := false }

/-- Factory row zones: A to D AMBIENT, E to H CHILLED (R73). -/
def factoryZone (r : Row) : Zone := if r.val < 4 then .ambient else .chilled

/-- Factory coin type: disabled, value 1, empty windows, CASHBOX_ONLY (11.6). -/
def factoryCoin : CoinType :=
  { enabled := false, value := 1, fMin := 0, fMax := 0, aMin := 0, aMax := 0, dest := none }

/-- Factory tube: disabled, value 1, capacity 100, full mark 90, low mark 5, floor 0 (11.6). -/
def factoryTube : TubeSettings :=
  { enabled := false, value := 1, capacity := 100, fullMark := 90, lowMark := 5, floor := 0 }

/-- Factory cooling settings (R132). -/
def factoryCooling : CoolingSettings :=
  { base := 30, hysteresis := 20, defrostType := .heater, intervalH := 6, terminate := 80, safetyLimit := 70,
    safetyDelay := 30, setbackOff := 30, setbackDelay := 60, enable := true }

/-- Factory budgets and claim sizes (R156, R162). -/
def factoryBudget : BudgetSettings :=
  { normal := 60, low := 40, motor := 6, probe := 6, payout := 3, start := 45, run := 18, heater := 25,
    lighting := 4 }

/-- Factory link settings (R167): link 0 SELL, AUDIT, CONFIG, SERVICE; link 1 CARD; link 2 REMOTE, AUDIT, CONFIG and
mirror; every domain, every notice kind, both attention enables. -/
def factoryLink (l : Link) : LinkSettings :=
  { roles := if l = 0 then 0b111001 else if l = 1 then 0b000010 else 0b011100,
    domains := 0b1111, mask := 0x1FFFF, mirror := decide (l = 2), attnNotices := true, attnErrors := true }

/-- Factory sales settings (R7, R8, R40, R54, R96, R113). -/
def factorySales : SalesSettings :=
  { creditLimit := 5000, horizon := 500, forceVend := false, multiVend := false, rejectThreshold := 8,
    cardIdle := 60, ambient := { ramp := 200, duty := 80, extra := 1 },
    chilled := { ramp := 200, duty := 90, extra := 1 } }

/-- The factory settings (11.6). -/
def factorySettings : Settings :=
  { sels := tabulate factorySel, zones := tabulate factoryZone, coins := Vector.replicate 8 factoryCoin,
    tubes := Vector.replicate 5 factoryTube, cooling := factoryCooling, budget := factoryBudget,
    links := tabulate factoryLink, sales := factorySales }

/-! ## The records right after power-on, before anything has been loaded or taken -/

/-- The credit record of an IDLE session (R1). -/
def idleCredit : Credit :=
  { session := .idle, cash := 0, reserved := 0, vended := false, returnPending := none, payoutActive := false,
    owed := 0 }

/-- The coin front end at power-on (R48). -/
def initCoin : CoinFront :=
  { baseline := none, nextMark := 0, gateSpoiled := false, passage := none, inFlight := [], rejectCount := 0,
    periodEnd := Config.rejectPeriod, lockoutEnd := none, gateEnd := none, divert := false }

/-- The payout record at power-on (R56). -/
def initPayout : Payout :=
  { kind := none, origin := 0, requested := 0, tube := none, plan := none, remaining := [], coins := 0, paid := 0,
    state := .done, current := none, last := none, answer := none, nextAt := none, holdPending := false,
    restartPending := false, releasePending := false }

/-- A selection's running fields when the running region is bad (R80). -/
def initSel : SelRun := { stock := none, noDropRun := 0, saleCount := 0, holds := 0 }

/-- The drive record at power-on, before the probe (R95). -/
def initDrive : Drive :=
  { phase := .idle, service := none, cams := [], pending := none, brake := none, turnStart := 0,
    openChecked := false, windowEnd := none, probePos := none, probeResult := none, stepEnd := none }

/-- A thermistor at power-on (R127, R129). -/
def initSensor : Sensor := { fault := false, count := 0, filtered := none, raw := none }

/-- The cooling record at power-on with these settings and this accumulated run time (R134, R147). -/
def initCooling (c : CoolingSettings) (accumulated : Nat) : Cooling :=
  { state := if c.enable then .startDelay else .off, fallback := none, fbStart := none, mode := .normal,
    effective := c.base, zone := initSensor, evap := initSensor, accumulated := accumulated, lastStop := none,
    runStart := none, resized := false, pullDown := false, requested := false, defrostKind := none,
    defrostStart := none, drainStart := none, heat := false,
    setbackEnd := some (c.setbackDelay * Config.minute), nextZone := Config.samplePeriod,
    nextEvap := Config.samplePeriod }

/-- The safety record at power-on unless HELD was saved (R155). -/
def initSafety : Safety :=
  { state := .clear, excursion := 0, cause := none, peak := none, check := true }

/-- A link's running record at power-on, before its first notice (R181). -/
def initPort : LinkPort :=
  { rx := .awaitSync, errors := 0, backlog := [], notices := [], overflow := false }

end Sys2Proof.Machine
end

