-- ==== Sys2Proof/Machine/State.lean ====
section
/-! DEFINITION. The state of the part, the reasons a step can stop, and the state right after reset. -/

namespace Sys2Proof.Machine

/-- The part: the records of its blocks (00, section 3), the settings store, and the queue of waiting commands.
`startAfter` holds the mains level and the tube sensors of a RESET_N release that restarts the part once the save of its stop is
complete (R164, R192). INVENTORY.md names the rule of each field. -/
structure State where
  pending       : List Instr
  now           : Nat
  power         : PowerPhase
  resetAsserted : Bool
  startAfter    : Option (Nat × TubeLevels)
  settings      : Settings
  store         : Store
  links         : Vector LinkPort 3
  credit        : Credit
  coin          : CoinFront
  tubes         : Vector TubeRun 5
  exactChange   : Bool
  payout        : Payout
  sels          : Vector SelRun 80
  queue         : List Order
  lastId        : Nat
  drive         : Drive
  fitted        : Vector Bool 80
  blind         : Bool
  lateDrop      : Option LateDrop
  cams          : Vector Bool 80
  card          : Option CardSession
  lapsed        : List Lapsed
  cooling       : Cooling
  safety        : Safety
  claims        : List Claim
  supply        : SupplyState
  holder        : Option Link
  doorOpen      : Bool
  lifetime      : Counters
  interim       : Counters
  out2          : Bool
  out3          : Bool
  free          : Nat
  deriving DecidableEq, Repr

/-- The faults: none. Nothing in the manual stops the part with a fault (INVENTORY.md, Faults); a stop of the supply
is a state, a request that fails is answered with a status. -/
inductive Fault where
  deriving DecidableEq, Repr

/-- The refusals. -/
inductive Refusal where
  /-- Raised by `exec` alone, for a command that has no meaning yet. Safe: nothing can be proved of such a step. -/
  | notModelled (mnemonic : String)
  deriving DecidableEq, Repr

/-- The notices of the power-on that reset stands for: SYSTEM(POWER_UP) first, then SETTINGS_LOST (R193), then the
EXACT_CHANGE of the first evaluation (R55: no tube is enabled and the horizon is above 0). -/
def resetNotices : List Notice :=
  [⟨.system .powerUp 0, none⟩, ⟨.system .settingsLost 0, none⟩, ⟨.exactChange 0 true, none⟩]

/-- The machine right after reset: POWER_ON with no stored region, the mains at 100 % and every tube sensor CLEAR
(DESIGN CHOICE, log 1). The power-on probe's claim and the lighting claim are granted at once (R166). -/
def State.reset : State :=
  { pending := [], now := 0, power := .running, resetAsserted := false,
    settings := factorySettings,
    startAfter := none,
    store := { settings := .torn, running := .torn, saving := none, stopping := none },
    links := Vector.replicate 3 { initPort with notices := resetNotices },
    credit := idleCredit, coin := initCoin,
    tubes := Vector.replicate 5 { count := 0, full := false, low := false },
    exactChange := true, payout := initPayout,
    sels := Vector.replicate 80 initSel, queue := [], lastId := 0,
    drive := { initDrive with
      phase := .probing, probePos := some 0, probeResult := some (Vector.replicate 80 false),
      stepEnd := some Config.probeStep },
    fitted := Vector.replicate 80 true, blind := false, lateDrop := none,
    cams := Vector.replicate 80 false, card := none, lapsed := [],
    cooling := initCooling factoryCooling 0, safety := initSafety,
    claims := [{ owner := .probe, size := 6, promoted := false, granted := true, placedAt := 0 },
               { owner := .lighting, size := 4, promoted := false, granted := true, placedAt := 0 }],
    supply := .good, holder := none, doorOpen := false,
    lifetime := Vector.replicate 16 0, interim := Vector.replicate 16 0,
    out2 := false, out3 := false, free := 0 }

end Sys2Proof.Machine
end

