-- ==== Sys2Proof/Machine/Flags.lean ====
section
/-! DEFINITION. The sets held one bit per member: hold sets, error flags, roles, domain and notice masks; and the
attention output. -/

namespace Sys2Proof.Machine

/-! ## Hold sets (R72, R74) -/

/-- The set of one hold kind. -/
def HoldKind.mask (k : HoldKind) : HoldSet := BitVec.ofNat 5 (2 ^ k.code)
/-- Whether the hold set has this kind. -/
def holdsKind (h : HoldSet) (k : HoldKind) : Bool := h.getLsbD k.code
/-- The hold set with this kind. -/
def addKind (h : HoldSet) (k : HoldKind) : HoldSet := h ||| k.mask
/-- The hold set without this kind. -/
def removeKind (h : HoldSet) (k : HoldKind) : HoldSet := h &&& ~~~ k.mask
/-- The hold kinds the running region saves: DISABLED, SOLD_OUT and JAMMED (R190). -/
def savedKinds : HoldSet := HoldKind.disabled.mask ||| HoldKind.soldOut.mask ||| HoldKind.jammed.mask
/-- The kind with this code, if there is one (10.9). -/
def holdKindOf : Nat → Option HoldKind
  | 0 => some .disabled
  | 1 => some .soldOut
  | 2 => some .jammed
  | 3 => some .safety
  | 4 => some .noMotor
  | _ => none

/-! ## Error flags (R167, R170, R175) -/

/-- The set of one error flag. -/
def ErrFlag.mask (f : ErrFlag) : BitVec 6 := BitVec.ofNat 6 (2 ^ f.code)

/-- A link's record changed by `f`. -/
def State.modPort (l : Link) (f : LinkPort → LinkPort) (s : State) : State :=
  { s with links := upd s.links l f }

/-- The error flag is set, and stays set (R167). -/
def State.setError (l : Link) (f : ErrFlag) (s : State) : State :=
  s.modPort l fun p => { p with errors := p.errors ||| f.mask }

/-! ## Link settings (R167, R173, R179) -/

/-- The link settings in force for a link. -/
def State.linkSettings (s : State) (l : Link) : LinkSettings := s.settings.links[l]
/-- Whether the link has the role. -/
def State.hasRole (s : State) (l : Link) (r : Role) : Bool := (s.linkSettings l).roles.getLsbD r.code
/-- Whether the link's domain mask has the domain. -/
def State.inDomain (s : State) (l : Link) (d : Fin 4) : Bool := (s.linkSettings l).domains.getLsbD d.val
/-- Whether the link's notice mask has the kind. -/
def State.inMask (s : State) (l : Link) (b : NoticeBody) : Bool := (s.linkSettings l).mask.getLsbD b.kind

/-- The three links, lowest first. -/
def allLinks : List Link := [0, 1, 2]

/-- ATNn is asserted (R172): a notice waits and notice attention is enabled, or an error flag is set and error attention
is enabled. The outputs are off while the part does not run (R164, R181). -/
def State.atn (s : State) (l : Link) : Bool :=
  decide (s.power = .running) &&
    ((!s.links[l].notices.isEmpty && (s.linkSettings l).attnNotices) ||
     (decide (s.links[l].errors ≠ 0) && (s.linkSettings l).attnErrors))

end Sys2Proof.Machine
end

