-- ==== Sys2Proof/Machine/Operands.lean ====
section
/-! DEFINITION. The operand forms of the requests (spec/10, 10.9): body fields read as the model's values, with the ranges their
owners' rules give; and the settings written back as the bytes of a read response. An enumerated byte outside its codes reads
as none, which is BAD_ARG at its owner's check. -/

namespace Sys2Proof.Machine

/-! ## Single fields -/

/-- A selection code; above 79 there is none (00, section 6.2). -/
def selOf (b : Byte) : Option Sel := if h : b.toNat < 80 then some ⟨b.toNat, h⟩ else none
/-- A tube number; above 4 there is none. -/
def tubeOf (b : Byte) : Option TubeNo := if h : b.toNat < 5 then some ⟨b.toNat, h⟩ else none
/-- A coin type number; above 7 there is none. -/
def coinTypeOf (b : Byte) : Option CoinTypeNo := if h : b.toNat < 8 then some ⟨b.toNat, h⟩ else none
/-- A link number; above 2 there is none. -/
def linkOf (b : Byte) : Option Link := if h : b.toNat < 3 then some ⟨b.toNat, h⟩ else none
/-- A column; above 9 it lies outside the row (10.9). -/
def columnOf (b : Byte) : Option (Fin 10) := if h : b.toNat < 10 then some ⟨b.toNat, h⟩ else none
/-- A domain; above 3 there is none (R72). -/
def domainOf (b : Byte) : Option (Fin 4) := if h : b.toNat < 4 then some ⟨b.toNat, h⟩ else none
/-- A byte of two codes, 0 and 1 (10.9). -/
def boolOf (b : Byte) : Option Bool := if b = 0 then some false else if b = 1 then some true else none
/-- A coin destination: a tube, or 0xFF for CASHBOX_ONLY (10.9). -/
def destOf (b : Byte) : Option (Option TubeNo) := if b = 0xFF then some none else (tubeOf b).map some
/-- A stock: 0…63, or 0xFF for UNTRACKED (10.9). -/
def stockOf (b : Byte) : Option (Option Nat) :=
  if b = 0xFF then some none else if b.toNat ≤ 63 then some (some b.toNat) else none
/-- An amount of 0…60,000 units (00, section 6.1). -/
def amountOf (w : Word16) : Option Nat := if w.toNat ≤ Config.maxAmount then some w.toNat else none
/-- A set whose members are numbered below `m`; a member outside the field leaves none (R175, R177). -/
def setOf {n : Nat} (m : Nat) (b : BitVec n) : Option (BitVec m) :=
  if b.toNat < 2 ^ m then some (b.setWidth m) else none

/-! ## SET_SELECTION (R72, R77) -/

/-- The new values of a selection entry, their own ranges checked (R77, checks 1 and 2). -/
structure SelectionNew where
  price      : Nat
  column     : Fin 10
  pair       : Bool
  domain     : Fin 4
  perishable : Bool
  stock      : Option Nat
  available  : Bool
  deriving DecidableEq, Repr

/-- Checks 1 and 2 of R77: the values, and a spiral or a pair that lies in the row. -/
def selectionNew (a : SelectionArgs) : Option SelectionNew :=
  match amountOf a.price, columnOf a.column, boolOf a.pair, domainOf a.domain, boolOf a.perishable,
      stockOf a.stock, boolOf a.available with
  | some p, some c, some pr, some d, some pe, some st, some av =>
    if pr && decide (c.val = 9) then none
    else some { price := p, column := c, pair := pr, domain := d, perishable := pe, stock := st, available := av }
  | _, _, _, _, _, _, _ => none

/-! ## SET_COIN_TYPE (R30, R31) -/

/-- The ranges of a coin type's value and windows (R30). -/
def CoinType.inRange (c : CoinType) : Bool :=
  decide (1 ≤ c.value ∧ c.value ≤ 10000 ∧ c.fMin ≤ c.fMax ∧ c.fMax ≤ 4095 ∧ c.aMin ≤ c.aMax ∧ c.aMax ≤ 255)

/-- Check 1 of R31. -/
def coinTypeNew (a : CoinTypeArgs) : Option (CoinTypeNo × CoinType) :=
  match coinTypeOf a.type, boolOf a.enabled, destOf a.dest with
  | some i, some e, some d =>
    let c : CoinType :=
      { enabled := e, value := a.value.toNat, fMin := a.fMin.toNat, fMax := a.fMax.toNat, aMin := a.aMin.toNat,
        aMax := a.aMax.toNat, dest := d }
    if c.inRange then some (i, c) else none
  | _, _, _ => none

/-! ## SET_TUBE (R41, R45) -/

/-- The ranges of a tube's settings (R41). -/
def TubeSettings.inRange (t : TubeSettings) : Bool :=
  decide (1 ≤ t.value ∧ t.value ≤ 10000 ∧ 1 ≤ t.capacity ∧ t.capacity ≤ 200 ∧ 1 ≤ t.fullMark ∧
    t.fullMark ≤ t.capacity ∧ t.lowMark < t.fullMark ∧ t.floor ≤ t.capacity)

/-- Check 1 of R45. -/
def tubeNew (a : TubeArgs) : Option (TubeNo × TubeSettings) :=
  match tubeOf a.tube, boolOf a.enabled with
  | some i, some e =>
    let t : TubeSettings :=
      { enabled := e, value := a.value.toNat, capacity := a.capacity.toNat, fullMark := a.fullMark.toNat,
        lowMark := a.lowMark.toNat, floor := a.floor.toNat }
    if t.inRange then some (i, t) else none
  | _, _ => none

/-! ## SET_COOLING (R132, R145) -/

/-- The ranges of the cooling settings (R132). -/
def CoolingSettings.inRange (c : CoolingSettings) : Bool :=
  decide (0 ≤ c.base ∧ c.base ≤ 120 ∧ 5 ≤ c.hysteresis ∧ c.hysteresis ≤ 50 ∧ 1 ≤ c.intervalH ∧ c.intervalH ≤ 24 ∧
    20 ≤ c.terminate ∧ c.terminate ≤ 150 ∧ 30 ≤ c.safetyLimit ∧ c.safetyLimit ≤ 150 ∧ 5 ≤ c.safetyDelay ∧
    c.safetyDelay ≤ 120 ∧ 0 ≤ c.setbackOff ∧ c.setbackOff ≤ 80 ∧ 5 ≤ c.setbackDelay ∧ c.setbackDelay ≤ 240)

/-- Check 2 of R145: the cut-in in NORMAL stays 1.0 °C below the safety limit (R133). -/
def CoolingSettings.fits (c : CoolingSettings) : Bool := decide (c.base + c.hysteresis ≤ c.safetyLimit - 10)

/-- The row zones of a byte: row A lowest bit, 1 is CHILLED (10.9). -/
def zonesOf (b : Byte) : Vector Zone 8 := tabulate fun r => if b.getLsbD r.val then .chilled else .ambient

/-- Checks 1 and 2 of R145. -/
def coolingNew (a : CoolingArgs) : Option (CoolingSettings × Vector Zone 8) :=
  match boolOf a.defrostType, boolOf a.enable with
  | some d, some e =>
    let c : CoolingSettings :=
      { base := a.base.toInt, hysteresis := a.hysteresis.toInt, defrostType := if d then .offCycle else .heater,
        intervalH := a.interval.toNat, terminate := a.terminate.toInt, safetyLimit := a.safetyLimit.toInt,
        safetyDelay := a.safetyDelay.toNat, setbackOff := a.setbackOff.toInt, setbackDelay := a.setbackDelay.toNat,
        enable := e }
    if c.inRange && c.fits then some (c, zonesOf a.zones) else none
  | _, _ => none

/-- The SET_COOLING body of the settings in force (10.9, READ_COOLING). -/
def coolingBytes (c : CoolingSettings) (z : Vector Zone 8) : List Byte :=
  temp16 c.base ++ temp16 c.hysteresis ++ [byte c.defrostType.code, byte c.intervalH] ++ temp16 c.terminate ++
    temp16 c.safetyLimit ++ [byte c.safetyDelay] ++ temp16 c.setbackOff ++
    [byte c.setbackDelay, byte (bit c.enable), byte (bits (z.toList.map fun x => decide (x = .chilled)))]

/-! ## SET_BUDGET (R165) -/

/-- A claim size of 1…160 (R165). -/
def sizeOk (n : Nat) : Bool := decide (1 ≤ n ∧ n ≤ 160)

/-- Check 1 of R165. -/
def BudgetSettings.inRange (b : BudgetSettings) : Bool :=
  decide (1 ≤ b.motor ∧ b.motor ≤ 80 ∧ 45 ≤ b.normal ∧ b.normal ≤ 160 ∧ b.low ≤ 160) && sizeOk b.probe &&
    sizeOk b.payout && sizeOk b.start && sizeOk b.run && sizeOk b.heater && sizeOk b.lighting

/-- The largest claim size (R165, check 3). -/
def BudgetSettings.largest (b : BudgetSettings) : Nat :=
  max (2 * b.motor) (max b.probe (max b.payout (max b.start (max b.heater b.lighting))))

/-- Checks 2 and 3 of R165. -/
def BudgetSettings.fits (b : BudgetSettings) : Bool :=
  decide (b.low ≤ b.normal ∧ b.run ≤ b.start ∧ b.largest ≤ b.normal ∧ b.start + b.lighting ≤ b.normal)

/-- Checks 1 to 3 of R165. -/
def budgetNew (a : BudgetArgs) : Option BudgetSettings :=
  let b : BudgetSettings :=
    { normal := a.normal.toNat, low := a.low.toNat, motor := a.motor.toNat, probe := a.probe.toNat,
      payout := a.payout.toNat, start := a.start.toNat, run := a.run.toNat, heater := a.heater.toNat,
      lighting := a.lighting.toNat }
  if b.inRange && b.fits then some b else none

/-! ## SET_LINK (R167, R177) -/

/-- Check 1 of R177. -/
def linkNew (a : LinkArgs) : Option (Link × LinkSettings) :=
  match linkOf a.link, setOf 6 a.roles, setOf 4 a.domains, setOf 17 a.mask, boolOf a.mirror, setOf 2 a.enables with
  | some l, some r, some d, some m, some mi, some e =>
    some (l, { roles := r, domains := d, mask := m, mirror := mi, attnNotices := e.getLsbD 0,
               attnErrors := e.getLsbD 1 })
  | _, _, _, _, _, _ => none

/-- The link settings as LINK_STATUS reports them (10.9). -/
def linkSettingsBytes (k : LinkSettings) : List Byte :=
  [byte k.roles.toNat, byte k.domains.toNat] ++ le24 k.mask.toNat ++
    [byte (bit k.mirror), byte (bits [k.attnNotices, k.attnErrors])]

/-! ## SET_SALES (R8, R96) -/

/-- The ranges of a motion profile (R96). -/
def Profile.inRange (p : Profile) : Bool := decide (p.ramp ≤ 500 ∧ 50 ≤ p.duty ∧ p.duty ≤ 100 ∧ p.extra ≤ 2)

/-- A motion profile of its bytes. -/
def profileNew (a : ProfileArgs) : Profile :=
  { ramp := a.ramp.toNat, duty := a.duty.toNat, extra := a.extra.toNat }

/-- The ranges of the sales settings (R8, checks 1 and 2). -/
def SalesSettings.inRange (x : SalesSettings) : Bool :=
  decide (x.creditLimit ≤ Config.maxAmount ∧ x.horizon ≤ Config.maxAmount ∧ 1 ≤ x.rejectThreshold ∧
    x.rejectThreshold ≤ 31 ∧ 10 ≤ x.cardIdle ∧ x.cardIdle ≤ 255) && x.ambient.inRange && x.chilled.inRange

/-- Checks 1 and 2 of R8. -/
def salesNew (a : SalesArgs) : Option SalesSettings :=
  match boolOf a.forceVend, boolOf a.multiVend with
  | some f, some m =>
    let x : SalesSettings :=
      { creditLimit := a.creditLimit.toNat, horizon := a.horizon.toNat, forceVend := f, multiVend := m,
        rejectThreshold := a.rejectThreshold.toNat, cardIdle := a.cardIdle.toNat, ambient := profileNew a.ambient,
        chilled := profileNew a.chilled }
    if x.inRange then some x else none
  | _, _ => none

/-! ## Answers -/

/-- What a request's owner gives back: the state after its effect, and the body of the response, status first (R171). -/
abbrev Answer := State × List Byte

/-- A refused request changes no state and is answered with its status alone (R171, R173). -/
def refuse (st : Status) (s : State) : Answer := (s, [st.code])

/-- An accepted request: its status and the rest of its response body (R171). -/
def answered (st : Status) (body : List Byte) (s : State) : Answer := (s, st.code :: body)

end Sys2Proof.Machine
end

