-- ==== Sys2Proof/Machine/Ops.lean ====
section
/-! DEFINITION. The named operations every block uses: the clock, notices, counters, table updates, free values. -/

namespace Sys2Proof.Machine

/-! ## The clock (log 2, 3) -/

/-- The accumulated run time after `d` ms: it grows while the relay is closed, up to 1,500 min (R132). -/
def Cooling.elapse (d : Nat) (c : Cooling) : Cooling :=
  if c.runStart.isSome then { c with accumulated := min Config.maxRunTime (c.accumulated + d) } else c

/-- The clock moves on to time `t` if that is still ahead (log 3). -/
def State.advance (t : Nat) (s : State) : State :=
  if t ≤ s.now then s else { s with now := t, cooling := s.cooling.elapse (t - s.now) }

/-- The clock moves on to a deadline that may be absent. -/
def State.advanceOpt (t : Option Nat) (s : State) : State :=
  match t with
  | some t => s.advance t
  | none => s

/-- A step with an empty queue: 1 ms passes while the part runs (log 2). -/
def State.tick (s : State) : State :=
  if s.power = .running then s.advance (s.now + 1) else s

/-! ## Notices (R178, R179, R180) -/

/-- A notice joins the back of a link's queue, or is discarded with overflow set when the queue holds 16 (R180). -/
def State.push (n : Notice) (l : Link) (s : State) : State :=
  s.modPort l fun p =>
    if p.notices.length < Config.noticeQueueSize then { p with notices := p.notices ++ [n] }
    else { p with overflow := true }

/-- The links that receive a mirrored copy of a notice with these recipients (R179). -/
def State.mirrors (s : State) (b : NoticeBody) (dest : List Link) : List Link :=
  allLinks.filter fun l => (s.linkSettings l).mirror && s.inMask l b && !dest.contains l

/-- A raised notice is delivered to its recipients, then copied to the mirroring links with the first recipient as
source link (R179). -/
def State.deliver (b : NoticeBody) (dest : List Link) (s : State) : State :=
  match dest with
  | [] => s
  | first :: _ =>
    let s1 := dest.foldl (fun s l => s.push ⟨b, none⟩ l) s
    (s.mirrors b dest).foldl (fun s l => s.push ⟨b, some first⟩ l) s1

/-- A broadcast goes to every link whose mask includes its kind (R179). -/
def State.broadcast (b : NoticeBody) (s : State) : State :=
  s.deliver b (allLinks.filter fun l => s.inMask l b)

/-- The addressees of a notice with an origin link and perhaps a card link, each named once (R92, R179). -/
def addressees (origin : Link) (card : Option Link) : List Link :=
  match card with
  | some c => if c = origin then [origin] else [origin, c]
  | none => [origin]

/-! ## Audit counters (R188) -/

/-- Both copies of a counter rise by `n`, modulo 2^32 (R188). -/
def State.count (c : Counter) (n : Nat) (s : State) : State :=
  { s with lifetime := upd s.lifetime c.code (· + BitVec.ofNat 32 n),
           interim := upd s.interim c.code (· + BitVec.ofNat 32 n) }

/-! ## Free values (log 8, 9, 10, 32) -/

/-- The next free value is taken from the next place of its sequence. -/
def State.useFree (s : State) : State := { s with free := s.free + 1 }

/-! ## Selections and tubes -/

/-- A selection's running entry changed by `f`. -/
def State.modSel (i : Sel) (f : SelRun → SelRun) (s : State) : State := { s with sels := upd s.sels i f }

/-- A selection's settings changed by `f`. -/
def State.modSelSettings (i : Sel) (f : SelSettings → SelSettings) (s : State) : State :=
  { s with settings := { s.settings with sels := upd s.settings.sels i f } }

/-- A tube's running record changed by `f`. -/
def State.modTube (i : TubeNo) (f : TubeRun → TubeRun) (s : State) : State := { s with tubes := upd s.tubes i f }

/-- The 80 selections in rising code order. -/
def allSels : List Sel := List.finRange 80
/-- The five tubes in rising order. -/
def allTubes : List TubeNo := [0, 1, 2, 3, 4]

/-- The row of a selection or spiral (00, section 6.2). -/
def rowOf (i : Sel) : Row := ⟨i.val / 10, by omega⟩
/-- The column of a selection or spiral. -/
def colOf (i : Sel) : Fin 10 := ⟨i.val % 10, by omega⟩
/-- The position at a row and a column. -/
def posAt (r : Row) (c : Fin 10) : Pos := ⟨r.val * 10 + c.val, by omega⟩

/-- The zone of a selection is the zone of its row (R73). -/
def State.zoneOf (s : State) (i : Sel) : Zone := s.settings.zones[rowOf i]

/-- The spirals of a selection entry (R72). -/
def State.spiralsOf (s : State) (i : Sel) : Spirals :=
  { first := posAt (rowOf i) s.settings.sels[i].column, pair := s.settings.sels[i].pair }

/-- The positions of one spiral or a pair. -/
def Spirals.positions (p : Spirals) : List Pos :=
  if p.pair then
    if h : p.first.val + 1 < 80 then [p.first, ⟨p.first.val + 1, h⟩] else [p.first]
  else [p.first]

/-- All of a selection's spirals are in the fitted map (R108). -/
def State.allFitted (s : State) (p : Spirals) : Bool := p.positions.all fun q => s.fitted[q]

/-! ## SELECTION_HOLD (R74) -/

/-- The SELECTION_HOLD notice of a change of one kind of one selection (R74). -/
def State.holdNotice (i : Sel) (k : HoldKind) (s : State) : State :=
  s.broadcast (.selectionHold i s.sels[i].holds k)

/-- A hold kind is added, with its notice; adding a kind that is present changes nothing (R74). -/
def State.addHold (i : Sel) (k : HoldKind) (s : State) : State :=
  if holdsKind s.sels[i].holds k then s
  else (s.modSel i fun e => { e with holds := addKind e.holds k }).holdNotice i k

/-- A hold kind is removed, with its notice; removing an absent kind changes nothing (R74). -/
def State.removeHold (i : Sel) (k : HoldKind) (s : State) : State :=
  if holdsKind s.sels[i].holds k then
    (s.modSel i fun e => { e with holds := removeKind e.holds k }).holdNotice i k
  else s

/-! ## Events -/

/-- The outcome of a command that acts only while the part runs: from the stop on, the part takes no bytes, coins, samples
or timers (R164), so the state is unchanged (log 5). -/
def whileRunning (f : State → State) (s : State) : Host.Outcome State Fault Refusal :=
  .next (if s.power = .running then f s else s)

end Sys2Proof.Machine
end

