-- ==== Sys2Proof/Machine/Planner.lean ====
section
/-! DEFINITION. The change planner (spec/03, R50 to R53) and the tube manager's exact-change flag (R54, R55). -/

namespace Sys2Proof.Machine

/-! ## Denominations (R50) -/

/-- A value joins a falling list of distinct values. -/
def insertValue (v : Nat) : List Nat → List Nat
  | [] => [v]
  | w :: ws => if w < v then v :: w :: ws else if w = v then w :: ws else w :: insertValue v ws

/-- The enabled tubes, in rising order. -/
def State.enabledTubes (s : State) : List TubeNo := allTubes.filter fun i => s.settings.tubes[i].enabled

/-- The values of the denominations, largest first (R50). -/
def State.tubeValues (s : State) : List Nat :=
  s.enabledTubes.foldl (fun vs i => insertValue s.settings.tubes[i].value vs) []

/-- What a tube offers a plan: in pass 1 its count above the floor, else its count (R50). -/
def State.offers (s : State) (pass : Pass) (i : TubeNo) : Nat :=
  match pass with
  | .one => s.tubes[i].count - s.settings.tubes[i].floor
  | _ => s.tubes[i].count

/-- Each denomination with its availability in a pass (R50). -/
def State.denominations (s : State) (pass : Pass) : List (Nat × Nat) :=
  s.tubeValues.map fun v =>
    (v, ((s.enabledTubes.filter fun i => s.settings.tubes[i].value = v).map (s.offers pass)).sum)

/-! ## The search (R51, R52) -/

/-- Counts of one denomination tried from the largest down, the rest of the amount left to `rest` (R51). -/
def tryCounts (rest : Nat → Option (List Nat)) (v c : Nat) : Nat → Option (List Nat)
  | 0 => (rest c).map (0 :: ·)
  | k + 1 =>
    match rest (c - (k + 1) * v) with
    | some r => some ((k + 1) :: r)
    | none => tryCounts rest v c k

/-- The lexicographically greatest exact plan for amount `c`, by depth-first search (R51). -/
def search : List (Nat × Nat) → Nat → Option (List Nat)
  | [], c => if c = 0 then some [] else none
  | (v, a) :: ds, c => tryCounts (search ds) v c (min a (c / v))

/-- The greatest total at most `c` that has a plan, and its lexicographically greatest plan (R52). -/
def underPay (ds : List (Nat × Nat)) : Nat → Nat × List Nat
  | 0 => (0, ds.map fun _ => 0)
  | c + 1 =>
    match search ds (c + 1) with
    | some r => (c + 1, r)
    | none => underPay ds c

/-- The planner's answer for amount `c` over the tubes as they stand: pass 1, pass 2, under-pay (R51, R52). -/
def State.planFor (s : State) (c : Nat) : Plan :=
  match search (s.denominations .one) c with
  | some r => { counts := s.tubeValues.zip r, pass := .one, owed := 0 }
  | none =>
    match search (s.denominations .two) c with
    | some r => { counts := s.tubeValues.zip r, pass := .two, owed := 0 }
    | none =>
      let u := underPay (s.denominations .two) c
      { counts := s.tubeValues.zip u.2, pass := .under, owed := c - u.1 }

/-- A plan without a coin (R57, R62). -/
def noCoins (counts : List (Nat × Nat)) : Bool := counts.all fun d => d.2 = 0

/-! ## The tube that gives a coin (R53) -/

/-- The tube with the highest count among candidates in rising order, ties to the lower number (R53). -/
def State.fullest (s : State) : List TubeNo → Option TubeNo
  | [] => none
  | i :: is =>
    match s.fullest is with
    | some j => if s.tubes[i].count < s.tubes[j].count then some j else some i
    | none => some i

/-- The enabled tubes of a denomination whose count is above the bound `b` gives (R53). -/
def State.candidates (s : State) (v : Nat) (b : TubeNo → Nat) : List TubeNo :=
  s.enabledTubes.filter fun i => decide (s.settings.tubes[i].value = v) && decide (b i < s.tubes[i].count)

/-- The tube that gives the next coin of denomination `v` under a plan of this pass (R53). -/
def State.chooseTube (s : State) (v : Nat) (pass : Pass) : Option TubeNo :=
  match pass with
  | .one =>
    match s.fullest (s.candidates v fun i => s.settings.tubes[i].floor) with
    | some i => some i
    | none => s.fullest (s.candidates v fun _ => 0)
  | _ => s.fullest (s.candidates v fun _ => 0)

/-! ## The exact-change flag (R54, R55) -/

/-- The first of `n` amounts, from `c` on in steps of `g`, without an exact plan (R54). -/
def firstFailing (ds : List (Nat × Nat)) (g : Nat) : Nat → Nat → Option Nat
  | 0, _ => none
  | n + 1, c => if (search ds c).isSome then firstFailing ds g n (c + g) else some c

/-- The evaluation of the flag: set or clear, with the notice's value (R54, R55). -/
def State.exactChangeNow (s : State) : Bool × Nat :=
  match s.tubeValues.getLast? with
  | none => (decide (0 < s.settings.sales.horizon), 0)
  | some g =>
    match firstFailing (s.denominations .two) g (s.settings.sales.horizon / g) g with
    | some c => (true, c)
    | none => (false, 0)

/-- The tube manager re-evaluates the flag, with an EXACT_CHANGE notice when it changes (R54, R55). -/
def State.evalExact (s : State) : State :=
  let e := s.exactChangeNow
  if e.1 = s.exactChange then s
  else { s with exactChange := e.1 }.broadcast (.exactChange e.2 e.1)

end Sys2Proof.Machine
end

