-- ==== Sys2Proof/Machine/Tubes.lean ====
section
/-! DEFINITION. The tube manager's operations: routing, counts and sensor corrections (spec/02, R42 to R44). -/

namespace Sys2Proof.Machine

/-- The coins in flight to a tube (R42). -/
def State.inFlightTo (s : State) (i : TubeNo) : Nat := (s.coin.inFlight.filter fun c => c.route = some i).length

/-- The routing test: the tube would take a coin now (R42). -/
def State.wouldTake (s : State) (i : TubeNo) : Bool :=
  s.settings.tubes[i].enabled && !s.tubes[i].full &&
    decide (s.tubes[i].count + s.inFlightTo i < s.settings.tubes[i].fullMark)

/-- The route of an accepted coin of this type: its tube, or the cashbox (R42). -/
def State.routeOf (s : State) (t : CoinTypeNo) : Option TubeNo :=
  match s.settings.coins[t].dest with
  | some i => if s.wouldTake i then some i else none
  | none => none

/-- A tube's count becomes `n`; ADJUST_UP or ADJUST_DOWN rises by the difference times the value (R43). -/
def State.adjustTo (i : TubeNo) (n : Nat) (s : State) : State :=
  let old := s.tubes[i].count
  let v := s.settings.tubes[i].value
  let s1 := s.modTube i fun t => { t with count := n }
  if old < n then s1.count .adjustUp ((n - old) * v)
  else if n < old then s1.count .adjustDown ((old - n) * v)
  else s1

/-- A confirmed coin of value `v` is counted into its tube, held at capacity, where ADJUST_DOWN also rises by that value (R43;
log 41). -/
def State.countIn (i : TubeNo) (v : Nat) (s : State) : State :=
  if s.tubes[i].count < s.settings.tubes[i].capacity then s.modTube i fun t => { t with count := t.count + 1 }
  else s.count .adjustDown v

/-- A coin seen at the exit is counted out of its tube, held at 0 (R43). -/
def State.countOut (i : TubeNo) (s : State) : State := s.modTube i fun t => { t with count := t.count - 1 }

/-- The sensors show a stack that cannot exist: full COVERED, low CLEAR (R44). -/
def TubeRun.contradictory (t : TubeRun) : Bool := t.full && !t.low

/-- The full sensor correction, as though the sensor had just changed to its present state (R44). -/
def State.correctFull (i : TubeNo) (s : State) : State :=
  let t := s.tubes[i]
  let c := s.settings.tubes[i]
  if c.enabled && !t.contradictory && t.full && decide (t.count < c.fullMark) then s.adjustTo i c.fullMark else s

/-- The low sensor correction, as though the sensor had just changed to its present state (R44). -/
def State.correctLow (i : TubeNo) (s : State) : State :=
  let t := s.tubes[i]
  let c := s.settings.tubes[i]
  if c.enabled && !t.contradictory && !t.low && decide (c.lowMark < t.count) then s.adjustTo i c.lowMark else s

/-- Both corrections on the present sensor states (R44, R45, R48). -/
def State.correctTube (i : TubeNo) (s : State) : State := (s.correctFull i).correctLow i

end Sys2Proof.Machine
end

