-- ==== Sys2Proof/Machine/Ejector.lean ====
section
/-! DEFINITION. The payout engine's coin attempts: tube choice, pulse, re-plan, and its grant (spec/03, R53, R58, R59, R62). -/

namespace Sys2Proof.Machine

/-- The payout record changed by `f`. -/
def State.modPayout (f : Payout → Payout) (s : State) : State := { s with payout := f s.payout }

/-- The engine holds a payout while it is not DONE (R56). -/
def Payout.isHeld (p : Payout) : Bool := decide (p.state ≠ .done)

/-- The largest denomination of which coins remain (R59). -/
def nextDenomination : List (Nat × Nat) → Option Nat
  | [] => none
  | d :: ds => if 0 < d.2 then some d.1 else nextDenomination ds

/-- One coin fewer remains of denomination `v` (R60). -/
def takeCoin (v : Nat) : List (Nat × Nat) → List (Nat × Nat)
  | [] => []
  | d :: ds => if d.1 = v then (d.1, d.2 - 1) :: ds else d :: takeCoin v ds

/-- A pulse on a tube's ejector with its exit window (R59, R61). -/
def State.pulse (i : TubeNo) (n : Nat) (s : State) : State :=
  s.modPayout fun p =>
    { p with
      current := some { tube := i, pulse := n, driven := true, seenAt := none,
                        pulseEnd := s.now + Config.pulseTime,
                        windowEnd := s.now + Config.pulseTime + Config.windowTime },
      last := some { tube := i, kind := p.kind.getD .session, origin := p.origin },
      nextAt := none }

/-- A session payout is re-planned over the tubes as they now stand; the claim is kept (R62). -/
def State.replan (s : State) : State :=
  let a := s.planFor (s.payout.requested - s.payout.paid)
  s.modPayout fun p => { p with state := .planning, current := none, nextAt := none, answer := some a }

/-- The next coin attempt begins: its tube by R53, or the named tube of a dispense (R59, R69). A denomination without a
coin to draw is re-planned (R62). -/
def State.beginCoin (s : State) : State :=
  match s.payout.kind with
  | some .dispense =>
    match s.payout.tube with
    | some i => s.pulse i 1
    | none => s
  | _ =>
    match nextDenomination s.payout.remaining with
    | none => s.modPayout fun p => { p with nextAt := none }
    | some v =>
      match s.chooseTube v ((s.payout.plan.map (·.pass)).getD .two) with
      | some i => s.pulse i 1
      | none => s.replan

/-- The PAYOUT claim is granted: EJECTING, and the first coin at once (R58, R67, R69). -/
def State.payoutGranted (s : State) : State :=
  if s.payout.state = .waitGrant then (s.modPayout fun p => { p with state := .ejecting }).beginCoin else s

/-- A planned payout with nothing left to eject and no coin in its window (R65; it arises when a payout leaves HOLD with
an all-zero plan, R62). -/
def Payout.isEmpty (p : Payout) : Bool :=
  decide (p.state = .ejecting) && decide (p.kind = some .session) && p.current.isNone && noCoins p.remaining

end Sys2Proof.Machine
end

