-- ==== Sys2Proof/Machine/Turn.lean ====
section
/-! DEFINITION. The spiral drive's turns and the grants of VEND and PROBE claims (spec/05, R94 to R97, R109). -/

namespace Sys2Proof.Machine

/-- The drive record changed by `f`. -/
def State.modDrive (f : Drive → Drive) (s : State) : State := { s with drive := f s.drive }

/-- The orders with this id changed by `f`. -/
def State.modOrder (id : Nat) (f : Order → Order) (s : State) : State :=
  { s with queue := s.queue.map fun o => if o.id = id then f o else o }

/-- The drive is running the motor probe (R109). -/
def Drive.isProbing (d : Drive) : Bool := decide (d.phase = .probeWait ∨ d.phase = .probing)

/-- The motion profile of a zone (R96). -/
def State.profileOf (s : State) (z : Zone) : Profile :=
  match z with
  | .ambient => s.settings.sales.ambient
  | .chilled => s.settings.sales.chilled

/-- The spirals driven now: those of the turn that have not homed (R94, R101). -/
def Drive.drivenCount (d : Drive) : Nat := (d.cams.filter fun c => decide (c ≠ .homed)).length

/-- A turn begins: turns done rise, each cam is LEFT if its switch already reads away, and the spirals are energized;
with every cam LEFT the phase is RUN at once (R97, R99; log 18). -/
def State.beginTurn (sv : Service) (s : State) : State :=
  let cams := sv.spirals.positions.map fun p => if s.cams[p] then CamState.left else CamState.away
  (s.modOrder sv.order fun o => { o with turns := o.turns + 1 }).modDrive fun d =>
    { d with
      phase := if cams.all fun c => decide (c = .left) then .run else .start,
      service := some sv, cams := cams, pending := none, brake := none, turnStart := s.now,
      openChecked := false, windowEnd := none }

/-- The drive takes an order that enters TURNING; behind a brake that SOFT_RESTART left, its first turn waits (R97). -/
def State.takeOrder (o : Order) (s : State) : State :=
  let sv : Service :=
    { order := o.id, spirals := o.spirals, profile := s.profileOf (s.zoneOf o.sel), dropSeen := false }
  if s.drive.brake.isSome then s.modDrive fun d => { d with phase := .brake, service := some sv, cams := [] }
  else s.beginTurn sv

/-- An ORDER_STATE notice of an order (R92). -/
def State.stateNotice (o : Order) (st : OrderState) (s : State) : State :=
  s.deliver (.orderState o.id o.sel st) (addressees o.origin o.cardLink)

/-- The hold set lets the order turn at its grant: empty, or for TEST without NO_MOTOR (R82). -/
def State.mayTurn (s : State) (o : Order) : Bool :=
  if o.funding = .test then !holdsKind s.sels[o.sel].holds .noMotor else decide (s.sels[o.sel].holds = 0)

/-- The VEND claim is granted: the head enters TURNING if its hold set lets it (R82). An order that meets a hold fails
HELD as an event of its own (R159): `State.settle`. -/
def State.vendGranted (s : State) : State :=
  match s.queue with
  | o :: _ =>
    if o.state = .waitGrant && s.mayTurn o then
      ((s.modOrder o.id fun o => { o with state := .turning }).stateNotice o .turning).takeOrder o
    else s
  | [] => s

/-- The PROBE claim is granted: PROBING at position 0, the first step at once or after a running brake (R109). -/
def State.probeGranted (s : State) : State :=
  if s.drive.phase = .probeWait then
    s.modDrive fun d =>
      { d with phase := .probing, probePos := some 0,
               stepEnd := if d.brake.isSome then none else some (s.now + Config.probeStep) }
  else s

end Sys2Proof.Machine
end

