-- ==== Sys2Proof/Machine/Arbiter.lean ====
section
/-! DEFINITION. The load arbiter: the claim list, the grant pass and the owners' grant events (spec/09, R156 to R162), with
the compressor's and the heater's own grants (R136, R141, R143). -/

namespace Sys2Proof.Machine

/-- The cooling record changed by `f`. -/
def State.modCooling (f : Cooling → Cooling) (s : State) : State := { s with cooling := f s.cooling }

/-! ## Grants of the cooling controller's claims -/

/-- The COMPRESSOR claim is granted: the relay closes (R136, R143). -/
def State.compressorGranted (s : State) : State :=
  s.modCooling fun c =>
    let closed := { c with runStart := some s.now, resized := false, pullDown := false }
    match c.state, c.fallback with
    | .waitGrant, _ => { closed with state := .running }
    | .fallback, some .fbWait => { closed with fallback := some .fbOn, fbStart := some s.now }
    | _, _ => c

/-- The HEATER claim is granted: HEAT is switched on (R141). -/
def State.heaterGranted (s : State) : State :=
  s.modCooling fun c => if c.state = .defrost then { c with heat := true } else c

/-! ## The claim list -/

/-- The class of an owner's claims (R156). -/
def Owner.class : Owner → Nat
  | .vend => 0
  | .probe => 0
  | .payout => 1
  | .compressor => 2
  | .heater => 3
  | .lighting => 4

/-- The current budget (R162). -/
def State.budget (s : State) : Nat :=
  match s.supply with
  | .good => s.settings.budget.normal
  | .low => s.settings.budget.low
  | .powerFail => 0

/-- The sum of the sizes of the granted claims (R156). -/
def grantedTotal (cs : List Claim) : Nat := ((cs.filter (·.granted)).map (·.size)).sum

/-- A claim's place among the waiting ones: a promoted claim first, then by class (R158). -/
def Claim.rank (c : Claim) : Nat := if c.promoted then 0 else c.owner.class + 1

/-- The waiting claims in grant order; within one class the list's own order is that of arrival (R158). -/
def grantOrder (cs : List Claim) : List Claim :=
  [0, 1, 2, 3, 4, 5].flatMap fun k => cs.filter fun c => !c.granted && decide (c.rank = k)

/-- The owners a pass grants: the claims in grant order that fit, up to the first that does not (R159). -/
def passOwners (budget : Nat) : Nat → List Claim → List Owner
  | _, [] => []
  | total, c :: cs => if total + c.size ≤ budget then c.owner :: passOwners budget (total + c.size) cs else []

/-- The owner's grant event (R159). A LIGHTING grant has no effect but the claim's own state, which OUT0 follows (R144). -/
def State.tell (o : Owner) (s : State) : State :=
  match o with
  | .vend => s.vendGranted
  | .payout => s.payoutGranted
  | .compressor => s.compressorGranted
  | .heater => s.heaterGranted
  | .lighting => s
  | .probe => s.probeGranted

/-- The claim list replaced. -/
def State.setClaims (cs : List Claim) (s : State) : State := { s with claims := cs }

/-- A grant pass: the claims it grants become GRANTED, then each owner is told in the order of the grants (R159). -/
def State.grantPass (s : State) : State :=
  let os := passOwners s.budget (grantedTotal s.claims) (grantOrder s.claims)
  os.foldl (fun s o => s.tell o)
    (s.setClaims (s.claims.map fun c => if os.contains c.owner then { c with granted := true } else c))

/-- The claim an owner has in the list (R156). -/
def State.claimOf (s : State) (o : Owner) : Option Claim := s.claims.find? fun c => decide (c.owner = o)

/-- The owner's claim waits in the list. -/
def State.isWaiting (s : State) (o : Owner) : Bool := s.claims.any fun c => decide (c.owner = o) && !c.granted

/-- The owner's claim is granted. -/
def State.isGranted (s : State) (o : Owner) : Bool := s.claims.any fun c => decide (c.owner = o) && c.granted

/-- An owner places a claim behind every other, and a pass is made (R157). -/
def State.placeClaim (o : Owner) (size : Nat) (s : State) : State :=
  (s.setClaims ((s.claims.filter fun c => decide (c.owner ≠ o)) ++
    [{ owner := o, size := size, promoted := false, granted := false, placedAt := s.now }])).grantPass

/-- An owner releases or withdraws its claim, and a pass is made; without a claim nothing changes (R160). -/
def State.removeClaim (o : Owner) (s : State) : State :=
  if s.claims.any fun c => decide (c.owner = o) then
    (s.setClaims (s.claims.filter fun c => decide (c.owner ≠ o))).grantPass
  else s

/-- An owner resizes its granted claim to a smaller size, and a pass is made; any other size changes nothing (R161;
log 15). -/
def State.resizeClaim (o : Owner) (size : Nat) (s : State) : State :=
  if s.claims.any fun c => decide (c.owner = o) && c.granted && decide (size < c.size) then
    (s.setClaims (s.claims.map fun c => if c.owner = o then { c with size := size } else c)).grantPass
  else s

/-- The COMPRESSOR claim becomes promoted, and a pass is made (R158). -/
def State.promoteClaim (s : State) : State :=
  (s.setClaims (s.claims.map fun c =>
    if c.owner = .compressor then { c with promoted := true } else c)).grantPass

/-- The size in force of an order's VEND claim (R157). -/
def State.vendSize (s : State) (p : Spirals) : Nat := s.settings.budget.motor * p.positions.length

/-- The head's VEND claim is placed when the head is READY and no probe runs (R82). -/
def State.claimHead (s : State) : State :=
  match s.queue with
  | o :: _ =>
    if o.state = .ready && !s.drive.isProbing then
      ((s.modOrder o.id fun o => { o with state := .waitGrant }).stateNotice o .waitGrant).placeClaim .vend
        (s.vendSize o.spirals)
    else s
  | [] => s

end Sys2Proof.Machine
end

