-- ==== Sys2Proof/Machine/Credit.lean ====
section
/-! DEFINITION. The credit store: the payout start test, the idle test, the credit limit, the end of a session payout and the
CREDIT notice (spec/01, R3, R5, R12, R18, R20), and the engine's start of a session payout (spec/03, R57). -/

namespace Sys2Proof.Machine

/-- The credit record changed by `f`. -/
def State.modCredit (f : Credit → Credit) (s : State) : State := { s with credit := f s.credit }

/-- The CREDIT notice: the session and the cash credit as they stand (R12). -/
def State.creditNotice (r : CreditReason) (s : State) : State :=
  s.broadcast (.credit s.credit.session s.credit.cash r)

/-- The CREDIT notice with reason SESSION if the session is no longer the one given (R12). -/
def State.sessionNotice (before : Session) (s : State) : State :=
  if s.credit.session = before then s else s.creditNotice .session

/-- The session changes, with its CREDIT notice (R2, R12). -/
def State.setSession (x : Session) (s : State) : State :=
  (s.modCredit fun c => { c with session := x }).creditNotice .session

/-- The values of the coins in flight (R5). -/
def State.inFlightValue (s : State) : Nat := (s.coin.inFlight.map (·.value)).sum

/-- The credit limit test (R5). -/
def State.withinLimit (s : State) (v : Nat) : Bool :=
  decide (s.credit.cash + s.inFlightValue + v ≤ s.settings.sales.creditLimit)

/-- A session payout of amount `c` starts: PLANNING, with the planner's answer over the counts as they stand (R57). -/
def State.startPayout (c : Nat) (origin : Link) (s : State) : State :=
  { s with payout :=
      { initPayout with kind := some .session, origin := origin, requested := c, state := .planning,
                        last := s.payout.last, answer := some (s.planFor c) } }

/-- The payout start test (R18). -/
def State.startTest (s : State) : State :=
  match s.credit.returnPending with
  | none => s
  | some l =>
    if s.credit.session = .cash && s.queue.isEmpty && s.coin.inFlight.isEmpty && !s.credit.payoutActive then
      if 0 < s.credit.cash then
        (s.modCredit fun c => { c with returnPending := none, payoutActive := true }).startPayout s.credit.cash l
      else s.modCredit fun c => { c with returnPending := none }
    else s

/-- The conditions of the idle test (R3). -/
def State.idlePasses (s : State) : Bool :=
  decide (s.credit.session = .cash) && decide (s.credit.cash = 0) && s.coin.inFlight.isEmpty && s.queue.isEmpty &&
    !s.credit.payoutActive && s.credit.returnPending.isNone

/-- The idle test: a CASH session that nothing holds becomes IDLE (R3). -/
def State.idleTest (s : State) : State :=
  if s.idlePasses then s.modCredit fun c => { c with session := .idle, vended := false, owed := 0 } else s

/-- The start test and then the idle test, with the CREDIT notice if they change the session (R3, R12). -/
def State.creditTests (s : State) : State := s.startTest.idleTest.sessionNotice s.credit.session

/-- The end of a session payout in the credit store (R20). -/
def State.payoutEnded (s : State) : State :=
  (s.modCredit fun c => { c with payoutActive := false, owed := c.cash }).idleTest.creditNotice .payout

end Sys2Proof.Machine
end

