-- ==== Sys2Proof/Machine/PayoutEngine.lean ====
section
/-! DEFINITION. The payout engine's claim, hold, ends and waits (spec/03, R57 to R70). -/

namespace Sys2Proof.Machine

/-- The engine claims current and waits for the grant (R57, R67, R68). -/
def State.claimPayout (s : State) : State :=
  (s.modPayout fun p => { p with state := .waitGrant }).placeClaim .payout s.settings.budget.payout

/-- The engine gives up its claim and enters HOLD with plan, paid and requested kept (R66). -/
def State.enterHold (s : State) : State :=
  (s.modPayout fun p =>
    { p with state := .hold, current := none, nextAt := none, answer := none, holdPending := false }).removeClaim .payout

/-- A PAYOUT notice to the origin link of the payout (R64): owed amount or tube, and the amount paid. -/
def State.payoutNotice (r : PayoutReason) (s : State) : State :=
  let subject := match s.payout.kind with
    | some .dispense => (s.payout.tube.map (·.val)).getD 0
    | _ => s.credit.cash
  s.deliver (.payout subject s.payout.paid r) [s.payout.origin]

/-- The payout ends: the claim leaves the list, the engine is DONE, its notice goes out, and a session payout is reported
to the credit store (R65, R69, R70). -/
def State.endPayout (r : PayoutReason) (s : State) : State :=
  let s1 := (s.modPayout fun p =>
    { p with state := .done, current := none, nextAt := none, answer := none, holdPending := false,
             restartPending := false, releasePending := false }).removeClaim .payout
  let s2 := s1.payoutNotice r
  if s.payout.kind = some .session then s2.payoutEnded else s2

/-- The reason of a payout's end by its last coin (R65, R69). -/
def Payout.endedBy (p : Payout) : PayoutReason := if p.kind = some .session then .done else .ended

/-- No planned coin remains (R59, R69). -/
def Payout.isPaidOut (p : Payout) : Bool :=
  if p.kind = some .session then noCoins p.remaining else decide (p.coins = 0)

/-- The end of PLANNING (R57, R62, R66, R70): a pending SOFT_RESTART ends the payout; a first plan that is all zero ends it,
an open door holds it, and otherwise it claims; a re-plan looks to the door first. -/
def State.planningDone (s : State) : State :=
  let again := s.isGranted .payout
  let a := s.payout.answer.getD { counts := [], pass := .two, owed := 0 }
  let s1 := s.modPayout fun p => { p with plan := some a, remaining := a.counts, answer := none }
  let held := s.doorOpen || s.payout.holdPending
  if s.payout.restartPending then s1.endPayout .restart
  else if again then
    if held then s1.enterHold
    else if noCoins a.counts then s1.endPayout .done
    else (s1.modPayout fun p => { p with state := .ejecting }).beginCoin
  else
    if noCoins a.counts then s1.endPayout .done
    else if held then s1.enterHold
    else s1.claimPayout

/-- After a coin seen at the exit its window closes: the payout ends, holds, or goes on to the next coin at the later of now
and 120 ms after the exit (R59, R66, R69, R70). -/
def State.windowAfterCoin (seen : Nat) (s : State) : State :=
  let p := s.payout
  let s1 := s.modPayout fun p => { p with current := none }
  if p.restartPending then s1.endPayout .restart
  else if p.isPaidOut then s1.endPayout p.endedBy
  else if p.holdPending then s1.enterHold
  else if p.releasePending then s1.endPayout .ended
  else if seen + Config.exitGap ≤ s.now then s1.beginCoin
  else s1.modPayout fun p => { p with nextAt := some (seen + Config.exitGap) }

/-- A first window closes empty: a second pulse on the same tube, unless a stop waits for this close (R61, R66, R69, R70). -/
def State.windowEmptyFirst (i : TubeNo) (s : State) : State :=
  let p := s.payout
  if p.restartPending then (s.modPayout fun p => { p with current := none }).endPayout .restart
  else if p.holdPending then s.enterHold
  else if p.releasePending then (s.modPayout fun p => { p with current := none }).endPayout .ended
  else s.pulse i 2

/-- A second window closes empty: the tube is dry (R61). A session payout re-plans (R62), a dispense ends DRY (R69), and a
pending SOFT_RESTART ends either (R70). The model's choice: a session payout for which a door opening waits re-plans first and
enters HOLD at the end of PLANNING (R66; log 44), and a dispense for which a loss of privilege waits ends DRY, not ENDED (R69,
R183; log 45). -/
def State.windowEmptySecond (i : TubeNo) (s : State) : State :=
  let s1 := (s.adjustTo i 0).modPayout fun p => { p with current := none }
  let s2 :=
    if s.payout.restartPending then s1.endPayout .restart
    else if s.payout.kind = some .session then s1.replan
    else s1.endPayout .dry
  s2.evalExact

/-- The door opens (R66): a session payout stops further ejection. -/
def State.payoutDoorOpens (s : State) : State :=
  if s.payout.kind = some .session then
    match s.payout.state with
    | .planning => s.modPayout fun p => { p with holdPending := true }
    | .waitGrant => s.enterHold
    | .ejecting =>
      if s.payout.current.isSome then s.modPayout fun p => { p with holdPending := true } else s.enterHold
    | _ => s
  else s

/-- The door closes (R67): a session payout in HOLD claims again. -/
def State.payoutDoorCloses (s : State) : State :=
  if s.payout.state = .hold then s.claimPayout else s

/-- Service privilege is released (R69): a dispense ends, at once or after the window in progress. -/
def State.payoutReleased (s : State) : State :=
  if s.payout.kind = some .dispense then
    match s.payout.state with
    | .waitGrant => s.endPayout .ended
    | .ejecting =>
      if s.payout.current.isSome then s.modPayout fun p => { p with releasePending := true } else s.endPayout .ended
    | _ => s
  else s

/-- SOFT_RESTART ends a held payout, at once or at the end of PLANNING or of the window in progress (R70). -/
def State.payoutRestarted (s : State) : State :=
  match s.payout.state with
  | .planning => s.modPayout fun p => { p with restartPending := true }
  | .waitGrant => s.endPayout .restart
  | .ejecting =>
    if s.payout.current.isSome then s.modPayout fun p => { p with restartPending := true } else s.endPayout .restart
  | .hold => s.endPayout .restart
  | .done => s

end Sys2Proof.Machine
end

