-- ==== Sys2Proof/Machine/VendQueue.lean ====
section
/-! DEFINITION. The vend queue and the card session controller: creating, ending and cancelling orders, the end of a card
session, and the events a grant leaves behind (spec/04, R81 to R93; spec/06, R115 to R124). -/

namespace Sys2Proof.Machine

/-! ## Card sessions -/

/-- The card session record changed by `f` while one is open (R113). -/
def State.modCard (f : CardSession → CardSession) (s : State) : State := { s with card := s.card.map f }

/-- The card orders in the queue (R116). -/
def State.cardOrders (s : State) : List Order := s.queue.filter fun o => decide (o.funding = .card)

/-- The card session ends: CARD_END to the card link, the record closes, the session is IDLE (R124). -/
def State.cardEnd (r : CloseReason) (s : State) : State :=
  match s.card with
  | some c => ({ s.deliver (.cardEnd c.link c.funds r) [c.link] with card := none }).setSession .idle
  | none => s

/-- The idle timer of the card session starts with the card idle time (R113, R121). -/
def State.startCardIdle (s : State) : State :=
  s.modCard fun c => { c with idleEnd := some (s.now + s.settings.sales.cardIdle * Config.second) }

/-! ## Order ids (R81, R119) -/

/-- The id after this one in sequence: 255 is followed by 1 (R81). -/
def nextInSequence (id : Nat) : Nat := if 255 ≤ id then 1 else id + 1

/-- The first id in sequence after `last` that no order in the queue holds; four orders leave one within five (R81). -/
def freeId (q : List Order) : Nat → Nat → Nat
  | 0, last => nextInSequence last
  | n + 1, last =>
    let id := nextInSequence last
    if q.any fun o => decide (o.id = id) then freeId q n id else id

/-- The id of the next order (R81). -/
def State.nextId (s : State) : Nat := freeId s.queue Config.queueSize s.lastId

/-- A new order joins the back of the queue: it captures the selection's price and spirals and takes the next id, and a
lapsed entry with that id leaves its list (R81, R83, R119). -/
def State.createOrder (i : Sel) (price : Nat) (f : Funding) (origin : Link) (card : Option Link) (st : OrderState)
    (deadline : Option Nat) (s : State) : State :=
  let id := s.nextId
  { s with
    queue := s.queue ++
      [{ id := id, sel := i, spirals := s.spiralsOf i, price := price, funding := f, origin := origin,
         cardLink := card, state := st, turns := 0, deadline := deadline, endReason := none }],
    lastId := id,
    lapsed := s.lapsed.filter fun e => decide (e.id ≠ id) }

/-! ## The end of an order (R89, R90, R91) -/

/-- Step 1 of R89: a DONE order is settled (R11, R90, R116), any other has its reservation released (R10, R116). -/
def State.orderMoney (o : Order) (done : Bool) (s : State) : State :=
  match o.funding with
  | .cash =>
    if done then
      (s.modCredit fun c =>
        { c with cash := c.cash - o.price, reserved := c.reserved - o.price, vended := true,
                 owed := min c.owed (c.cash - o.price) }).count .cashSales o.price
    else s.modCredit fun c => { c with reserved := c.reserved - o.price }
  | .card =>
    if done then
      (s.modCard fun c => { c with funds := c.funds - o.price, reserved := c.reserved - o.price }).count
        .cardSales o.price
    else s.modCard fun c => { c with reserved := c.reserved - o.price }
  | .remote => if done then s.count .remoteSales o.price else s
  | .test => s

/-- The stock of a selection falls by one at a success (R75); at stock 0 the manual states no figure (log 32). -/
def State.lowerStock (i : Sel) (s : State) : State :=
  match s.sels[i].stock with
  | none => s
  | some 0 => (s.modSel i fun e => { e with stock := some (Config.freeStock s.free).val }).useFree
  | some (n + 1) => s.modSel i fun e => { e with stock := some n }

/-- Step 2 of R89 without its hold: counters and the selection's fields (R90, R91). -/
def State.orderBooks (o : Order) (st : OrderState) (r : EndReason) (s : State) : State :=
  match st with
  | .done =>
    ((s.count .vends 1).modSel o.sel fun e => { e with saleCount := e.saleCount + 1, noDropRun := 0 }).lowerStock o.sel
  | .failed =>
    let s1 := s.count .vendFails 1
    if r = .noDrop then s1.modSel o.sel fun e => { e with noDropRun := min 2 (e.noDropRun + 1) } else s1
  | _ => s

/-- The hold that step 2 of R89 adds, if any, judged on the selection before (`old`) and after the books (R75, R91). -/
def orderHold (old new : SelRun) (st : OrderState) (r : EndReason) : Option HoldKind :=
  match st with
  | .done => if new.stock = some 0 then some .soldOut else none
  | .failed =>
    match r with
    | .noDrop => if old.noDropRun < 2 ∧ new.noDropRun = 2 then some .soldOut else none
    | .jam => some .jammed
    | .noStart => some .jammed
    | .noMotor => some .noMotor
    | _ => none
  | _ => none

/-- An order leaves the queue; when the last CARD order leaves an open, unclosed session, the idle timer starts again
(R82, R121). -/
def State.dropOrder (o : Order) (s : State) : State :=
  let s1 := { s with queue := s.queue.filter fun x => decide (x.id ≠ o.id) }
  match s1.card with
  | some c => if o.funding = .card && s1.cardOrders.isEmpty && c.closing.isNone then s1.startCardIdle else s1
  | none => s1

/-- Steps 1 to 4 of R89 for one order: money, selection, VEND_RESULT and then the hold's notice, departure. -/
def State.endOrder (o : Order) (st : OrderState) (r : EndReason) (s : State) : State :=
  let ended := { o with state := st, deadline := none, endReason := if st = .done then none else some r }
  let s1 := ((s.modOrder o.id fun _ => ended).orderMoney o (decide (st = .done))).orderBooks o st r
  let s2 := s1.deliver (.vendResult o.id o.price (ended.endReason.getD .done)) (addressees o.origin o.cardLink)
  let s3 := match orderHold s.sels[o.sel] s1.sels[o.sel] st r with
    | some k => s2.addHold o.sel k
    | none => s2
  s3.dropOrder o

/-- The multi-vend rule (R13): with multi-vend off, a CASH success that empties the queue sets return pending for its origin
link; a return already pending keeps the link that set it (log 19). -/
def State.multiVend (sale : Option Link) (s : State) : State :=
  match sale with
  | some l =>
    if !s.settings.sales.multiVend && s.queue.isEmpty then
      s.modCredit fun c => { c with returnPending := some (c.returnPending.getD l) }
    else s
  | none => s

/-- Step 5 of R89: multi-vend, start test and idle test (R13, R18, R3); a REMOTE session ends with its order (R23), a
CARD_CLOSING session with the order that held it open (R124); the CREDIT notice of R11 or R12. `sale` is the origin link of
a CASH order that succeeded. -/
def State.orderLeft (sale : Option Link) (s : State) : State :=
  let before := s.credit.session
  let s1 := (s.multiVend sale).startTest.idleTest
  let s2 := if s1.credit.session = .remote && !(s1.queue.any fun o => decide (o.funding = .remote)) then
      s1.modCredit fun c => { c with session := .idle } else s1
  let s3 := if sale.isSome then s2.creditNotice .sale else s2.sessionNotice before
  match s3.card with
  | some c =>
    match c.closing with
    | some r => if s3.cardOrders.isEmpty then s3.cardEnd r else s3
    | none => s3
  | none => s3

/-- Steps 5 and 6 of R89, once after the last order an event ends. -/
def State.afterOrders (sale : Option Link) (s : State) : State := (s.orderLeft sale).claimHead

/-- The origin link of an order whose success R11 settles. -/
def Order.saleOf (o : Order) (st : OrderState) : Option Link :=
  if o.funding = .cash ∧ st = .done then some o.origin else none

/-! ## Cancelling (R86, R87, R88, R89) -/

/-- Steps 1 to 4 of R89 for one cancelled order; an order in WAIT_GRANT has its claim withdrawn first. -/
def State.cancelOne (r : EndReason) (s : State) (o : Order) : State :=
  (if o.state = .waitGrant then s.removeClaim .vend else s).endOrder o .cancelled r

/-- Steps 1 to 4 of R89 for every order that meets `p`, from the head towards the back. -/
def State.cancelEach (p : Order → Bool) (r : EndReason) (s : State) : State :=
  (s.queue.filter p).foldl (fun s o => s.cancelOne r o) s

/-- One event cancels every order that meets `p`; steps 5 and 6 of R89 follow once (R89). -/
def State.cancelAll (p : Order → Bool) (r : EndReason) (s : State) : State :=
  if s.queue.any p then (s.cancelEach p r).afterOrders none else s

/-! ## Closing a card session (R123) -/

/-- The card session is closed: waiting orders are cancelled CARD_CLOSED, and the session is CARD_CLOSING while one of its
orders is in WAIT_GRANT or TURNING, and otherwise ends (R123, R124). -/
def State.closeCard (r : CloseReason) (s : State) : State :=
  let waits (o : Order) : Bool :=
    decide (o.funding = .card) && (decide (o.state = .waitApproval) || decide (o.state = .ready))
  let s1 := (s.cancelEach waits .cardClosed).modCard fun c => { c with idleEnd := none }
  let s2 := if s1.cardOrders.isEmpty then s1.cardEnd r
    else (s1.modCard fun c => { c with closing := some r }).setSession .cardClosing
  s2.claimHead

/-! ## What a grant leaves behind (R82, R159) -/

/-- One event that a grant left behind: the head's granted claim met a hold, so the order fails HELD and its claim is released
(R82, R159); or a payout left HOLD with nothing to eject, so it ends (R65). -/
def State.settleOne (s : State) : Option State :=
  match s.queue.head?, s.isGranted .vend with
  | some o, true =>
    if o.state = .waitGrant then
      some (((s.removeClaim .vend).endOrder o .failed .held).afterOrders none)
    else if s.payout.isEmpty then some (s.endPayout .done) else none
  | _, _ => if s.payout.isEmpty then some (s.endPayout .done) else none

/-- Those events until none is left: at most one for each order and one for the payout. -/
def State.settleN : Nat → State → State
  | 0, s => s
  | n + 1, s =>
    match s.settleOne with
    | some s1 => settleN n s1
    | none => s

/-- The events that the grants of a command leave behind (R159; log 13). -/
def State.settle (s : State) : State := s.settleN (Config.queueSize + 2)

/-! ## The service lock's release (R183) -/

/-- Service privilege is released: SERVICE(RELEASED), TEST orders not in TURNING are cancelled, a dispense ends (R87, R69). -/
def State.releasePrivilege (s : State) : State :=
  match s.holder with
  | none => s
  | some l =>
    let s1 : State := { s with holder := none }
    let s2 := s1.broadcast (.service l false)
    (s2.cancelAll (fun o => decide (o.funding = .test) && decide (o.state ≠ .turning)) .cancelled).payoutReleased

end Sys2Proof.Machine
end

