-- ==== Sys2Proof/Machine/Cooling.lean ====
section
/-! DEFINITION. The cooling controller's operations: conversion and filter (R127 to R129), thresholds (R133), compressor, defrost
and fallback (R134 to R143), mode and lighting (R144). -/

namespace Sys2Proof.Machine

/-! ## Conversion and filter (R128, R129) -/

/-- The table of 17 points in tenths of a degree (R128). -/
def tempTable : List Int :=
  [1250, 900, 700, 560, 450, 360, 280, 210, 150, 90, 30, -30, -95, -165, -250, -360, -550]

/-- `n / 256` rounded to the nearest whole number, halves away from zero (R128). -/
def round256 (n : Int) : Int := if 0 ≤ n then (2 * n + 256) / 512 else -((2 * -n + 256) / 512)

/-- The temperature of a good reading (R128). -/
def convert (a : BitVec 12) : Int :=
  let i := a.toNat / 256
  let r := a.toNat - 256 * i
  let t0 := tempTable.getD i 0
  let t1 := tempTable.getD (i + 1) 0
  t0 + round256 ((t1 - t0) * r)

/-- The filtered temperature after a converted reading `t` (R129). -/
def filterStep (f t : Int) : Int :=
  let d := t - f
  if 4 ≤ d ∨ d ≤ -4 then f + d.tdiv 4 else if 0 < d then f + 1 else if d < 0 then f - 1 else f

/-- A good reading (R127). -/
def goodReading (a : BitVec 12) : Bool := decide (Config.goodLow ≤ a.toNat ∧ a.toNat ≤ Config.goodHigh)

/-- A sensor after a reading: counts, status and filter (R127, R129). -/
def Sensor.judge (a : BitVec 12) (x : Sensor) : Sensor :=
  let y := { x with raw := some a }
  if goodReading a then
    if x.fault then
      if x.count + 1 < Config.goodRun then { y with count := x.count + 1 }
      else { y with fault := false, count := 0, filtered := some (convert a) }
    else
      { y with count := 0,
               filtered := some (match x.filtered with
                 | none => convert a
                 | some f => filterStep f (convert a)) }
  else if x.fault then { y with count := 0 }
  else if x.count + 1 < Config.badRun then { y with count := x.count + 1 }
  else { y with fault := true, count := 0 }

/-- The filtered temperature as a test may use it: present and its sensor VALID (R130). -/
def Sensor.usable (x : Sensor) : Option Int := if x.fault then none else x.filtered

/-- The filtered temperature a DEFROST or SAFETY notice carries: 0 if absent or in FAULT (R131, R154). -/
def Sensor.shown (x : Sensor) : Int := x.usable.getD 0

/-- The COOLING notice of a change of a sensor's status (R131). -/
def State.sensorNotice (n : SensorName) (old new : Sensor) (a : BitVec 12) (s : State) : State :=
  if old.fault = new.fault then s
  else if new.fault then s.broadcast (.cooling (.sensorFault n a.toNat))
  else s.broadcast (.cooling (.sensorOk n (new.filtered.getD 0)))

/-! ## Thresholds (R133, R139) -/

/-- The effective setpoint of a mode: in SETBACK the base plus the offset, lowered so that the cut-in stays 1.0 °C below the
safety limit (R133), and held in the field's range, at most 12.0 °C (R132; log 22). -/
def setpointOf (c : CoolingSettings) : CoolMode → Int
  | .normal => c.base
  | .setback => min (min (c.base + c.setbackOff) (c.safetyLimit - 10 - c.hysteresis)) Config.maxSetpoint

/-- The effective setpoint is computed again (R133). -/
def State.recompute (s : State) : State :=
  s.modCooling fun c => { c with effective := setpointOf s.settings.cooling c.mode }

/-- The cut-in (R133). -/
def State.cutIn (s : State) : Int := s.cooling.effective + s.settings.cooling.hysteresis
/-- The cut-out (R133). -/
def State.cutOut (s : State) : Int := s.cooling.effective

/-- A defrost is due (R139). -/
def State.isDue (s : State) : Bool := decide (s.settings.cooling.intervalH * Config.hour ≤ s.cooling.accumulated)
/-- The run time at which a defrost is forced (R139). -/
def State.forcedAt (s : State) : Nat := s.settings.cooling.intervalH * Config.hour + Config.forcedExtra
/-- A defrost is forced (R139). -/
def State.isForced (s : State) : Bool := decide (s.forcedAt ≤ s.cooling.accumulated)

/-- At least 60 s have passed since the run start (R136, R139). -/
def State.ranLongEnough (s : State) : Bool :=
  match s.cooling.runStart with
  | some t => decide (t + Config.minRun ≤ s.now)
  | none => false

/-- At least 180 s have passed since the last stop, or none is recorded, and since power-on (R135). -/
def State.restOver (s : State) : Bool :=
  decide (Config.compressorDelay ≤ s.now) &&
    match s.cooling.lastStop with
    | some t => decide (t + Config.compressorDelay ≤ s.now)
    | none => true

/-! ## Compressor (R135, R136) -/

/-- The start test (R135). -/
def State.startTestPasses (s : State) : Bool :=
  (match s.cooling.zone.usable with
   | some t => decide (s.cutIn ≤ t)
   | none => false) && s.restOver

/-- The zone temperature stands at or below the cut-out (R135, R136). -/
def State.isCold (s : State) : Bool :=
  match s.cooling.zone.usable with
  | some t => decide (t ≤ s.cutOut)
  | none => false

/-- A COMPRESSOR claim of the start size is placed from state or phase `f` (R135, R143). -/
def State.claimCompressor (f : Cooling → Cooling) (s : State) : State :=
  (s.modCooling f).placeClaim .compressor s.settings.budget.start

/-- The relay opens: the last stop is recorded, the run start is absent, the COMPRESSOR claim is released; the state or phase
becomes what `f` says (R136, R139, R143). -/
def State.stopCompressor (f : Cooling → Cooling) (s : State) : State :=
  (s.modCooling fun c => { f c with runStart := none, lastStop := some s.now }).removeClaim .compressor

/-- The end of FB_OFF: 15 min after the last stop, or at once without one, and not before 180 s after power-on (R143). -/
def State.fbOffEnd (s : State) : Nat :=
  max Config.compressorDelay ((s.cooling.lastStop.map (· + Config.fbOffTime)).getD 0)

/-- FB_OFF ends: a COMPRESSOR claim of the start size, FB_WAIT (R143). -/
def State.endFbOff (s : State) : State := s.claimCompressor fun c => { c with fallback := some .fbWait }

/-- FALLBACK begins in FB_OFF; a phase whose end has already passed ends at once (R143). The model's choice: it ends and claims before
a defrost that stands forced is looked to (R139; log 47). -/
def State.enterFallback (s : State) : State :=
  let s1 := s.modCooling fun c => { c with state := .fallback, fallback := some .fbOff, fbStart := none }
  if s1.fbOffEnd ≤ s1.now then s1.endFbOff else s1

/-- The state after a delay or a drain: IDLE, or FALLBACK while the zone sensor is in FAULT (R134, R142, R143). -/
def State.idleOrFallback (s : State) : State :=
  if s.cooling.zone.fault then s.enterFallback
  else s.modCooling fun c => { c with state := .idle, fallback := none, fbStart := none }

/-! ## Defrost (R139, R141, R142) -/

/-- DEFROST begins: its start, its type, the notice, and for HEATER the claim (R141). -/
def State.enterDefrost (s : State) : State :=
  let k := s.settings.cooling.defrostType
  let s1 := (s.modCooling fun c =>
    { c with state := .defrost, fallback := none, fbStart := none, defrostKind := some k, defrostStart := some s.now,
             requested := false }).broadcast (.cooling (.defrostStart k s.cooling.evap.shown))
  match k with
  | .heater => s1.placeClaim .heater s.settings.budget.heater
  | .offCycle => s1

/-- The end of a defrost: HEAT off, the HEATER claim released or withdrawn, the run time 0, DEFROST_END, DRAIN (R141, R142). -/
def State.endDefrost (cause : DefrostCause) (s : State) : State :=
  ((s.modCooling fun c =>
    { c with state := .drain, heat := false, accumulated := 0, defrostKind := none, defrostStart := none,
             drainStart := some s.now }).removeClaim .heater).broadcast
    (.cooling (.defrostEnd cause s.cooling.evap.shown))

/-- A defrost is forced or requested (R139). -/
def State.mustDefrost (s : State) : Bool := s.isForced || s.cooling.requested

/-- With the relay open a forced or requested defrost begins at once (R139). -/
def State.defrostOpen (s : State) : State :=
  if s.mustDefrost then
    match s.cooling.state, s.cooling.fallback with
    | .idle, _ => s.enterDefrost
    | .minOff, _ => s.enterDefrost
    | .startDelay, _ => s.enterDefrost
    | .waitGrant, _ => (s.removeClaim .compressor).enterDefrost
    | .fallback, some .fbOff => s.enterDefrost
    | .fallback, some .fbWait => (s.removeClaim .compressor).enterDefrost
    | _, _ => s
  else s

/-- With the relay closed a forced or requested defrost stops the compressor and begins once 60 s of the run have passed. That is
judged at the event at which the defrost becomes forced or requested, and after that at each zone sample (R139). -/
def State.defrostClosed (s : State) : State :=
  if s.mustDefrost && s.ranLongEnough then
    match s.cooling.state, s.cooling.fallback with
    | .running, _ => (s.stopCompressor id).enterDefrost
    | .fallback, some .fbOn => (s.stopCompressor id).enterDefrost
    | _, _ => s
  else s

/-- A forced or requested defrost begins where it can, with the relay open or closed (R139). -/
def State.defrostCheck (s : State) : State := s.defrostOpen.defrostClosed

/-- The defrost at an event other than a zone sample: one that the event made forced or requested begins where it can, one that
stood forced or requested `before` begins with the relay open alone (R139; where cooling has just been switched on: log 47). -/
def State.defrostArises (before : Bool) (s : State) : State := if before then s.defrostOpen else s.defrostCheck

/-- The temperature tests of the compressor at a zone sample (R130 step 4, R135, R136). -/
def State.compressorTests (s : State) : State :=
  match s.cooling.state with
  | .idle => if s.startTestPasses then s.claimCompressor fun c => { c with state := .waitGrant } else s
  | .waitGrant => if s.isCold then (s.modCooling fun c => { c with state := .idle }).removeClaim .compressor else s
  | .running =>
    if s.isCold && s.ranLongEnough then
      if s.isDue || s.cooling.requested then (s.stopCompressor id).enterDefrost
      else s.stopCompressor fun c => { c with state := .minOff }
    else s
  | _ => s

/-! ## Fallback moves at a change of the zone sensor's status (R143) -/

/-- The zone sensor enters FAULT (R143). -/
def State.zoneFails (s : State) : State :=
  match s.cooling.state with
  | .idle => s.enterFallback
  | .minOff => s.enterFallback
  | .waitGrant => s.modCooling fun c => { c with state := .fallback, fallback := some .fbWait }
  | .running => s.modCooling fun c => { c with state := .fallback, fallback := some .fbOn, fbStart := some s.now }
  | _ => s

/-- The zone sensor's fault ends (R143). -/
def State.zoneRecovers (s : State) : State :=
  let back (x : CoolState) (c : Cooling) : Cooling := { c with state := x, fallback := none, fbStart := none }
  match s.cooling.state, s.cooling.fallback with
  | .fallback, some .fbOff => s.modCooling (back .idle)
  | .fallback, some .fbWait => (s.modCooling (back .idle)).removeClaim .compressor
  | .fallback, some .fbOn => s.modCooling (back .running)
  | _, _ => s

/-! ## Mode and lighting (R144) -/

/-- The setback timer starts with the setback delay (R144). -/
def State.startSetbackTimer (s : State) : State :=
  s.modCooling fun c => { c with setbackEnd := some (s.now + s.settings.cooling.setbackDelay * Config.minute) }

/-- The mode becomes NORMAL: setpoint, notice, LIGHTING claim (R144). -/
def State.leaveSetback (s : State) : State :=
  let s1 := (s.modCooling fun c => { c with mode := .normal }).recompute
  (s1.broadcast (.cooling (.normal s1.cooling.effective))).placeClaim .lighting s.settings.budget.lighting

/-- The mode becomes SETBACK: the timer has run out, setpoint, notice, LIGHTING given up (R144). -/
def State.enterSetback (s : State) : State :=
  let s1 := (s.modCooling fun c => { c with mode := .setback, setbackEnd := none }).recompute
  (s1.broadcast (.cooling (.setback s1.cooling.effective))).removeClaim .lighting

/-- Activity: the setback timer starts again, and the mode is NORMAL (R144). -/
def State.activity (s : State) : State :=
  let s1 := s.startSetbackTimer
  if s1.cooling.mode = .setback then s1.leaveSetback else s1

/-- The safety monitor reports a state other than CLEAR: SETBACK ends and the timer starts again (R144, R148). -/
def State.safetyReported (s : State) : State :=
  if s.safety.state ≠ .clear ∧ s.cooling.mode = .setback then s.startSetbackTimer.leaveSetback else s

/-! ## Cooling enable (R134) -/

/-- Cooling enable changes to off: relay, heater and fan off, claims given up, OFF, DISABLED (R134). The report to the safety
monitor follows in the caller. -/
def State.disableCooling (s : State) : State :=
  let s1 := s.modCooling fun c =>
    { c with state := .off, fallback := none, fbStart := none,
             lastStop := if c.runStart.isSome then some s.now else c.lastStop, runStart := none, heat := false,
             requested := false, defrostKind := none, defrostStart := none, drainStart := none }
  ((s1.removeClaim .compressor).removeClaim .heater).broadcast (.cooling (.disabled (s.cooling.zone.filtered.getD 0)))

/-- Cooling enable changes to on: IDLE or FALLBACK, ENABLED (R134). A forced defrost that stands is looked to after that, which is the
model's choice for an FB_OFF that ends at once (log 47). -/
def State.enableCooling (s : State) : State :=
  s.idleOrFallback.broadcast (.cooling (.enabled (s.cooling.zone.filtered.getD 0)))

end Sys2Proof.Machine
end

