-- ==== Sys2Proof/Machine/CoinEvents.lean ====
section
/-! DEFINITION. The coin front end's events and the tube sensors' (spec/02, R28 to R44), with the meanings of their commands. -/

namespace Sys2Proof.Machine

/-- The coin front end changed by `f`. -/
def State.modCoin (f : CoinFront → CoinFront) (s : State) : State := { s with coin := f s.coin }

/-! ## Measurement (R28, R29) -/

/-- The first 1 s mark after a time (R28; log 43). -/
def markAfter (t : Nat) : Nat := (t / Config.markPeriod + 1) * Config.markPeriod

/-- A measurement is kept: no coin is present, none came while its gate ran, and the amplitude stands above the threshold (R28). -/
def CoinFront.keeps (amp : BitVec 12) (c : CoinFront) : Bool :=
  c.passage.isNone && !c.gateSpoiled && decide (Config.presenceThreshold < amp.toNat)

/-- BASELINE_MEASUREMENT: the gate of the 1 s mark due ends 2 ms after the mark; a measurement that is kept replaces the baseline,
and the next one is that of the next mark (R28; log 43). -/
def State.evBaseline (count : BitVec 16) (amp : BitVec 12) (s : State) : State :=
  let s1 := s.advance (s.coin.nextMark + Config.countGate)
  s1.modCoin fun c =>
    { c with baseline := if c.keeps amp then some { count := count, amp := amp } else c.baseline,
             nextMark := markAfter s1.now, gateSpoiled := false }

/-- COIN_PASSAGE_START: the amplitude fell below the presence threshold; a passage begins and with it the first of its 2 ms
gates, a measurement whose gate runs is spoiled, and it is activity (R28, R29, R144). -/
def State.evPassageStart (amp : BitVec 12) (s : State) : State :=
  if s.coin.passage.isNone && decide (amp.toNat < Config.presenceThreshold) then
    ((s.modCoin fun c =>
      { c with passage := some { lowCount := none, lowAmp := amp, gateEnd := s.now + Config.countGate },
               gateSpoiled := decide (c.nextMark ≤ s.now) }).activity).settle
  else s

/-- The passage keeps the lower of its lowest amplitude and one more (R29). -/
def Passage.keepAmp (amp : BitVec 12) (p : Passage) : Passage :=
  { p with lowAmp := if amp.toNat < p.lowAmp.toNat then amp else p.lowAmp }

/-- The passage after one more counting gate: the lowest count and the lowest amplitude; the next gate runs on from the end of
this one (R29). -/
def Passage.gate (count : BitVec 16) (amp : BitVec 12) (p : Passage) : Passage :=
  let q := p.keepAmp amp
  { q with lowCount := some (match p.lowCount with
             | some c => if count.toNat < c.toNat then count else c
             | none => count),
           gateEnd := p.gateEnd + Config.countGate }

/-- PASSAGE_GATE_END: the running gate of the passage ends, 2 ms after it began (R29; log 3). -/
def State.evGateEnd (count : BitVec 16) (amp : BitVec 12) (s : State) : State :=
  match s.coin.passage with
  | some p => (s.advance p.gateEnd).modCoin fun c => { c with passage := some (p.gate count amp) }
  | none => s

/-- F: baseline count less lowest count, clamped to 0…4,095; without a completed gate a free value (R29; log 8). -/
def coinF (b : Baseline) (p : Passage) (free : Nat) : Nat :=
  match p.lowCount with
  | some c => min 4095 (b.count.toNat - c.toNat)
  | none => (Config.freeCoinF free).toNat

/-- A: a sixteenth of the fall of the amplitude, clamped to 0…255 (R29). -/
def coinA (b : Baseline) (p : Passage) : Nat := min 255 ((b.amp.toNat - p.lowAmp.toNat) / 16)

/-- The coin type takes a coin of these figures (R30). -/
def CoinType.takes (c : CoinType) (f a : Nat) : Bool :=
  c.enabled && decide (c.fMin ≤ f ∧ f ≤ c.fMax ∧ c.aMin ≤ a ∧ a ≤ c.aMax)

/-- The eight coin types in rising order. -/
def allTypes : List CoinTypeNo := List.finRange 8

/-- The enabled type that matches; at most one does (R30). -/
def State.matchOf (s : State) (f a : Nat) : Option CoinTypeNo := allTypes.find? fun t => s.settings.coins[t].takes f a

/-- The type of the coin that has just passed; without a baseline none matches (R29). -/
def State.passedType (s : State) (p : Passage) : Option CoinTypeNo :=
  match s.coin.baseline with
  | some b => s.matchOf (coinF b p s.free) (coinA b p)
  | none => none

/-! ## The accept decision (R32 to R34, R40) -/

/-- A coin with the door open under service privilege is a fill coin (R32). -/
def State.takesFill (s : State) : Bool := s.doorOpen && s.holder.isSome

/-- The six tests of R32 for a coin of the type given, in order: the reason of the first that fails. -/
def State.rejectReason (t : Option CoinTypeNo) (s : State) : Option RejectReason :=
  if s.coin.lockoutEnd.isSome then some .lockout
  else
    match t with
    | none => some .noMatch
    | some t =>
      if s.doorOpen && s.holder.isNone then some .door
      else if s.credit.session = .card ∨ s.credit.session = .cardClosing ∨ s.credit.session = .remote ∨ s.payout.isHeld then
        some .session
      else if !s.takesFill && !s.withinLimit s.settings.coins[t].value then some .limit
      else if Config.inFlightSize ≤ s.coin.inFlight.length then some .busy
      else none

/-- The gate is closed and the diverter de-energized (R34). -/
def CoinFront.gateClosed (c : CoinFront) : CoinFront := { c with gateEnd := none, divert := false }

/-- A NO_MATCH reject counts toward the lockout, which starts at the reject threshold (R40). -/
def State.countReject (s : State) : State :=
  if s.settings.sales.rejectThreshold ≤ s.coin.rejectCount + 1 then
    (s.modCoin fun c => { c with rejectCount := 0, lockoutEnd := some (s.now + Config.lockoutTime) }).broadcast
      (.coinReject none 120 .lockout)
  else s.modCoin fun c => { c with rejectCount := c.rejectCount + 1 }

/-- A coin is rejected at PASSED: the gate closes, COIN_REJECT goes out, a NO_MATCH counts (R32, R34, R40). -/
def State.rejectCoin (t : Option CoinTypeNo) (r : RejectReason) (s : State) : State :=
  let shown := match r with
    | .lockout => none
    | .noMatch => none
    | _ => t
  let v := (shown.map fun t => s.settings.coins[t].value).getD 0
  let s1 := (s.modCoin CoinFront.gateClosed).broadcast (.coinReject shown v r)
  if r = .noMatch then s1.countReject else s1

/-- A coin is accepted at PASSED: route, in-flight entry, gate and diverter, and the session (R33, R34, R5). -/
def State.acceptCoin (t : CoinTypeNo) (s : State) : State :=
  let route := s.routeOf t
  let s1 := s.modCoin fun c =>
    { c with
      inFlight := c.inFlight ++ [{ type := t, value := s.settings.coins[t].value, route := route, fill := s.takesFill,
                                   deadline := s.now + Config.coinDeadline }],
      gateEnd := some (s.now + Config.gateTime), divert := route.isNone }
  if s1.credit.session = .idle then s1.setSession .cash else s1

/-- The end of a passage: the 1 s mark that fell inside it is skipped, and with it a spoiled measurement whose gate is over; a
spoiled one whose gate still runs is discarded at its end (R28; log 43). -/
def CoinFront.passageOver (now : Nat) (c : CoinFront) : CoinFront :=
  let d := { c with passage := none }
  if now < c.nextMark ∨ (c.gateSpoiled = true ∧ now < c.nextMark + Config.countGate) then d
  else { d with nextMark := markAfter now, gateSpoiled := false }

/-- PASSED: the coin is judged by its two figures, the amplitude of the gate that its passage did not complete kept with the
others (R29, R32). -/
def State.evPassed (amp : BitVec 12) (s : State) : State :=
  match s.coin.passage with
  | none => s
  | some q =>
    let p := q.keepAmp amp
    let t := s.passedType p
    let s1 := if s.coin.baseline.isSome && p.lowCount.isNone then s.useFree else s
    let s2 := s1.modCoin (CoinFront.passageOver s.now)
    match s2.rejectReason t, t with
    | some r, t => s2.rejectCoin t r
    | none, some t => s2.acceptCoin t
    | none, none => s2

/-- ACCEPT_GATE_CLOSE: the open period ends (R34). -/
def State.evGateClose (s : State) : State :=
  match s.coin.gateEnd with
  | some t => (s.advance t).modCoin CoinFront.gateClosed
  | none => s

/-! ## Confirmation and loss (R36 to R39) -/

/-- The oldest coin leaves the in-flight list (R35). -/
def State.popCoin (s : State) : State := s.modCoin fun c => { c with inFlight := c.inFlight.drop 1 }

/-- A confirmed cash coin: its route is counted, credit and CASH_IN rise, COIN and then CREDIT go out, the start test and the idle
test follow (R36, R6). -/
def State.confirmCash (c : InFlight) (s : State) : State :=
  let s1 := match c.route with
    | some i => (s.countIn i c.value).count .toTubes c.value
    | none => s.count .toCashbox c.value
  let s2 := (s1.modCredit fun k => { k with cash := k.cash + c.value }).count .cashIn c.value
  (((s2.broadcast (.coin c.route c.value false)).creditNotice .coin).startTest).idleTest

/-- A confirmed fill coin: its tube is counted, no credit is given (R37). -/
def State.confirmFill (c : InFlight) (s : State) : State :=
  let s1 := match c.route with
    | some i => (s.countIn i c.value).count .tubeFill c.value
    | none => s
  (s1.broadcast (.coin c.route c.value true)).creditTests

/-- CREDIT_PULSE: the oldest coin in flight is confirmed, or an unexpected coin is reported (R36, R37, R38). -/
def State.evCreditPulse (s : State) : State :=
  match s.coin.inFlight with
  | [] => s.broadcast (.coinReject none 0 .unexpected)
  | c :: _ =>
    let s1 := if c.fill then s.popCoin.confirmFill c else s.popCoin.confirmCash c
    if c.route.isSome then s1.evalExact else s1

/-- COIN_DEADLINE: the oldest coin in flight is lost (R39). -/
def State.evCoinDeadline (s : State) : State :=
  match s.coin.inFlight with
  | [] => s
  | c :: _ =>
    ((((s.advance c.deadline).popCoin).count .coinsLost c.value).broadcast (.coinReject (some c.type) c.value .lost)).creditTests

/-! ## Reject period and lockout (R40) -/

/-- REJECT_PERIOD_END: the count is 0 and the next period of 60 s begins where this one ends (R40). -/
def State.evRejectPeriod (s : State) : State :=
  (s.advance s.coin.periodEnd).modCoin fun c => { c with rejectCount := 0, periodEnd := c.periodEnd + Config.rejectPeriod }

/-- LOCKOUT_END: the lockout timer expires (R40). -/
def State.evLockoutEnd (s : State) : State :=
  match s.coin.lockoutEnd with
  | some t => (s.advance t).modCoin fun c => { c with lockoutEnd := none }
  | none => s

/-! ## Tube sensors (R41, R44) -/

/-- TUBE_SENSOR_CHANGE: the sensor field follows its input, and the correction of that sensor is applied (R41, R44). -/
def State.evTubeSensor (i : TubeNo) (sensor : TubeSensor) (covered : Bool) (s : State) : State :=
  match sensor with
  | .full =>
    if s.tubes[i].full = covered then s
    else
      let s1 := (s.modTube i fun t => { t with full := covered }).correctFull i
      if s1.tubes[i].count = s.tubes[i].count then s1 else s1.evalExact
  | .low =>
    if s.tubes[i].low = covered then s
    else
      let s1 := (s.modTube i fun t => { t with low := covered }).correctLow i
      if s1.tubes[i].count = s.tubes[i].count then s1 else s1.evalExact

/-! ## The commands -/

/-- BASELINE_MEASUREMENT. -/
def execBaselineMeasurement (count : BitVec 16) (amp : BitVec 12) (s : State) : Host.Outcome State Fault Refusal :=
  whileRunning (State.evBaseline count amp) s
/-- COIN_PASSAGE_START. -/
def execCoinPassageStart (amp : BitVec 12) (s : State) : Host.Outcome State Fault Refusal :=
  whileRunning (State.evPassageStart amp) s
/-- PASSAGE_GATE_END. -/
def execPassageGateEnd (count : BitVec 16) (amp : BitVec 12) (s : State) : Host.Outcome State Fault Refusal :=
  whileRunning (State.evGateEnd count amp) s
/-- PASSED. -/
def execPassed (s : State) (amp : BitVec 12 := 4095) : Host.Outcome State Fault Refusal := whileRunning (State.evPassed amp) s
/-- ACCEPT_GATE_CLOSE. -/
def execAcceptGateClose (s : State) : Host.Outcome State Fault Refusal := whileRunning State.evGateClose s
/-- CREDIT_PULSE. -/
def execCreditPulse (s : State) : Host.Outcome State Fault Refusal := whileRunning State.evCreditPulse s
/-- COIN_DEADLINE. -/
def execCoinDeadline (s : State) : Host.Outcome State Fault Refusal := whileRunning State.evCoinDeadline s
/-- REJECT_PERIOD_END. -/
def execRejectPeriodEnd (s : State) : Host.Outcome State Fault Refusal := whileRunning State.evRejectPeriod s
/-- LOCKOUT_END. -/
def execLockoutEnd (s : State) : Host.Outcome State Fault Refusal := whileRunning State.evLockoutEnd s
/-- TUBE_SENSOR_CHANGE. -/
def execTubeSensorChange (tube : TubeNo) (sensor : TubeSensor) (covered : Bool) (s : State) :
    Host.Outcome State Fault Refusal :=
  whileRunning (State.evTubeSensor tube sensor covered) s

end Sys2Proof.Machine
end

