-- ==== Sys2Proof/Machine/SafetyMonitor.lean ====
section
/-! DEFINITION. The safety monitor: excursion timing, the SAFETY hold and its agreement with the selection table (spec/08, R148 to
R155). -/

namespace Sys2Proof.Machine

/-- The safety record changed by `f`. -/
def State.modSafety (f : Safety → Safety) (s : State) : State := { s with safety := f s.safety }

/-- An event that may end several orders: steps 5 and 6 of R89 follow once, after the last (R89, R150). -/
def State.endingOrders (f : State → State) (s : State) : State :=
  let s1 := f s
  if s1.queue.length < s.queue.length then s1.afterOrders none else s1

/-! ## Conditions (R148) -/

/-- The excursion condition (R148). -/
def State.isExcursion (s : State) : Bool :=
  s.cooling.zone.fault ||
    match s.cooling.zone.usable with
    | some t => decide (s.settings.cooling.safetyLimit < t)
    | none => false

/-- Recovered (R148). -/
def State.isRecovered (s : State) : Bool :=
  match s.cooling.zone.usable with
  | some t => decide (t ≤ s.settings.cooling.safetyLimit - 5)
  | none => false

/-- The peak raised to a temperature that is present, VALID and higher (R149). -/
def raisePeak (peak : Option Int) (t : Option Int) : Option Int :=
  match peak, t with
  | p, none => p
  | none, some t => some t
  | some p, some t => some (max p t)

/-! ## Holds (R150, R152, R88) -/

/-- A selection that HELD holds: perishable, in a CHILLED row (R148). -/
def State.isHeldBySafety (s : State) (i : Sel) : Bool :=
  s.settings.sels[i].perishable && decide (s.zoneOf i = .chilled)

/-- SAFETY is added to a selection, and its waiting orders other than TEST are cancelled at once (R74, R88). -/
def State.addSafety (s : State) (i : Sel) : State :=
  if holdsKind s.sels[i].holds .safety then s
  else (s.addHold i .safety).cancelEach
    (fun o => decide (o.sel = i) && decide (o.funding ≠ .test) && decide (o.state ≠ .turning)) .safety

/-- SAFETY is removed from a selection (R74). -/
def State.removeSafety (s : State) (i : Sel) : State := s.removeHold i .safety

/-- Steps 1 to 3 of R150 without the end of R89: cause, time 0, the notice, the holds in rising code order. -/
def State.placeHold (cause : SafetyCause) (peak : Option Int) (s : State) : State :=
  let s1 := s.modSafety fun x => { x with state := .held, excursion := 0, cause := some cause, peak := peak, check := false }
  let s2 := s1.broadcast (.safety (some cause) (peak.getD 0) .held)
  (allSels.filter s2.isHeldBySafety).foldl State.addSafety s2

/-- The state becomes HELD (R150). -/
def State.hold (cause : SafetyCause) (peak : Option Int) (s : State) : State :=
  (s.endingOrders (State.placeHold cause peak)).safetyReported

/-- One selection kept in agreement with HELD after a change of its perishable flag or of its row's zone (R152). -/
def State.agreeSafety (s : State) (i : Sel) : State :=
  if s.safety.state = .held then if s.isHeldBySafety i then s.addSafety i else s.removeSafety i else s

/-- Cooling enable changes to off: CLEAR and TIMING become HELD (R151). -/
def State.coolingOffHold (s : State) : State :=
  match s.safety.state with
  | .clear => s.placeHold .coolingOff s.cooling.zone.usable
  | .timing => s.placeHold .coolingOff s.safety.peak
  | .held => s

/-! ## The zone sample (R149, R155) -/

/-- The cause a sensor or a temperature gives (R149, R154). -/
def Sensor.causeOf (x : Sensor) : SafetyCause := if x.fault then .sensor else .temp

/-- R149 at a zone sample, by the state. -/
def State.safetyEvaluate (s : State) : State :=
  let z := s.cooling.zone
  match s.safety.state with
  | .clear =>
    if s.isExcursion then
      ((s.modSafety fun x => { x with state := .timing, excursion := 0, peak := z.usable, check := false }).broadcast
        (.safety (some z.causeOf) z.shown .timing)).safetyReported
    else s
  | .timing =>
    if s.isRecovered then
      (s.modSafety fun x => { x with state := .clear, excursion := 0, peak := none }).broadcast
        (.safety none (s.safety.peak.getD 0) .clear)
    else
      let pauses := decide (s.cooling.state = .defrost ∨ s.cooling.state = .drain)
      let n := if pauses then s.safety.excursion else s.safety.excursion + 1
      let p := raisePeak s.safety.peak z.usable
      if s.settings.cooling.safetyDelay * 60 ≤ n then s.hold z.causeOf p
      else s.modSafety fun x => { x with excursion := n, peak := p }
  | .held => s.modSafety fun x => { x with peak := raisePeak x.peak z.usable }

/-- The safety monitor at a zone sample: the power-on check first where it is pending (R155), then R149. -/
def State.safetySample (s : State) : State :=
  match s.safety.state, s.safety.check, s.cooling.zone.usable with
  | .clear, true, some t =>
    if s.settings.cooling.safetyLimit < t then s.hold .powerUp (some t)
    else (s.modSafety fun x => { x with check := false }).safetyEvaluate
  | _, _, _ => s.safetyEvaluate

/-- The release (R153): the notice, SAFETY removed in rising code order, CLEAR. -/
def State.safetyReleased (s : State) : State :=
  let s1 := s.broadcast (.safety s.safety.cause (s.safety.peak.getD 0) .released)
  (allSels.foldl State.removeSafety s1).modSafety fun x =>
    { x with state := .clear, excursion := 0, cause := none, peak := none }

end Sys2Proof.Machine
end

