-- ==== Sys2Proof/Machine/CoolingEvents.lean ====
section
/-! DEFINITION. The cooling controller's and the load arbiter's timed events and samples, with the meanings of their commands
(spec/07, spec/09 R158, R161). -/

namespace Sys2Proof.Machine

/-- The status of the zone sensor changed: its notice, and the move into or out of FALLBACK (R130 step 3). -/
def State.zoneStatus (old : Sensor) (a : BitVec 12) (s : State) : State :=
  let s1 := s.sensorNotice .zone old s.cooling.zone a
  if old.fault = s.cooling.zone.fault then s1 else if s.cooling.zone.fault then s1.zoneFails else s1.zoneRecovers

/-- ZONE_SAMPLE: judge, hand to the safety monitor, act on a change of status, test (R130). The next sample follows 1 s later. -/
def State.evZoneSample (a : BitVec 12) (s : State) : State :=
  let s1 := s.advance s.cooling.nextZone
  let old := s1.cooling.zone
  let s2 := s1.modCooling fun c => { c with zone := c.zone.judge a, nextZone := s1.now + Config.samplePeriod }
  ((s2.safetySample.zoneStatus old a).defrostCheck.compressorTests).settle

/-- EVAP_SAMPLE: judge, act on a change of status, and in DEFROST the termination test (R130, R141). -/
def State.evEvapSample (a : BitVec 12) (s : State) : State :=
  let s1 := s.advance s.cooling.nextEvap
  let old := s1.cooling.evap
  let s2 := s1.modCooling fun c => { c with evap := c.evap.judge a, nextEvap := s1.now + Config.samplePeriod }
  let s3 := s2.sensorNotice .evap old s2.cooling.evap a
  if s3.cooling.state = .defrost then
    match s3.cooling.evap.usable with
    | some t => if s3.settings.cooling.terminate ≤ t then (s3.endDefrost .temp).settle else s3
    | none => s3
  else s3

/-- START_DELAY_END: 180 s after power-on (R134). -/
def State.evStartDelayEnd (s : State) : State :=
  if s.cooling.state = .startDelay then (s.advance Config.compressorDelay).idleOrFallback.settle else s

/-- COMPRESSOR_RESIZE: 2 s after the relay closes the claim is cut to the run size (R136, R161). -/
def State.evResize (s : State) : State :=
  match s.cooling.runStart with
  | some t =>
    if s.cooling.resized then s
    else
      let s1 := (s.advance (t + Config.resizeTime)).modCooling fun c => { c with resized := true }
      (s1.resizeClaim .compressor s1.settings.budget.run).settle
  | none => s

/-- MIN_OFF_END: 180 s after the last stop (R136). -/
def State.evMinOffEnd (s : State) : State :=
  if s.cooling.state = .minOff then
    (s.advanceOpt (s.cooling.lastStop.map (· + Config.compressorDelay))).modCooling fun c => { c with state := .idle }
  else s

/-- PULL_DOWN: the relay closed for 120 min, once per run (R137). -/
def State.evPullDown (s : State) : State :=
  match s.cooling.runStart with
  | some t =>
    if s.cooling.pullDown then s
    else
      ((s.advance (t + Config.pullDownTime)).modCooling fun c => { c with pullDown := true }).broadcast
        (.cooling (.pullDown s.cooling.zone.filtered))
  | none => s

/-- DEFROST_FORCED: during a run the accumulated run time reaches the interval plus 60 min. The defrost begins if 60 s of the run
had passed when it did, and otherwise waits for a zone sample (R139; log 3). -/
def State.evDefrostForced (s : State) : State :=
  match s.cooling.runStart with
  | some t =>
    let s1 := s.advance (s.now + (s.forcedAt - s.cooling.accumulated))
    let reached := s1.now - (s1.cooling.accumulated - s1.forcedAt)
    if t + Config.minRun ≤ reached then s1.defrostCheck.settle else s1
  | none => s

/-- DEFROST_TIME_END: 30 min after the defrost start (R141). -/
def State.evDefrostTime (s : State) : State :=
  match s.cooling.state, s.cooling.defrostStart with
  | .defrost, some t => ((s.advance (t + Config.defrostTime)).endDefrost .time).settle
  | _, _ => s

/-- DRAIN_END: 5 min after the drain start (R142). -/
def State.evDrainEnd (s : State) : State :=
  match s.cooling.state, s.cooling.drainStart with
  | .drain, some t =>
    (((s.advance (t + Config.drainTime)).modCooling fun c => { c with drainStart := none }).idleOrFallback).settle
  | _, _ => s

/-- FB_OFF_END: the off phase ends and the compressor claims (R143). -/
def State.evFbOffEnd (s : State) : State :=
  match s.cooling.state, s.cooling.fallback with
  | .fallback, some .fbOff => (s.advance s.fbOffEnd).endFbOff.settle
  | _, _ => s

/-- FB_ON_END: 10 min after the phase began the compressor stops, for a due or requested defrost or for FB_OFF (R143, R139). -/
def State.evFbOnEnd (s : State) : State :=
  match s.cooling.state, s.cooling.fallback, s.cooling.fbStart with
  | .fallback, some .fbOn, some t =>
    let s1 := s.advance (t + Config.fbOnTime)
    if s1.isDue || s1.cooling.requested then (s1.stopCompressor id).enterDefrost.settle
    else (s1.stopCompressor fun c => { c with fallback := some .fbOff, fbStart := none }).settle
  | _, _, _ => s

/-- SETBACK_EXPIRY: SETBACK in CLEAR, else the timer starts again (R144). -/
def State.evSetbackExpiry (s : State) : State :=
  match s.cooling.setbackEnd with
  | some t =>
    let s1 := s.advance t
    if s1.safety.state = .clear then s1.enterSetback.settle else s1.startSetbackTimer
  | none => s

/-- COMPRESSOR_PROMOTION: the claim has waited 60 s (R158). -/
def State.evPromotion (s : State) : State :=
  match s.claimOf .compressor with
  | some c =>
    if c.granted || c.promoted then s else ((s.advance (c.placedAt + Config.promotionTime)).promoteClaim).settle
  | none => s

/-! ## The commands -/

/-- ZONE_SAMPLE. -/
def execZoneSample (reading : BitVec 12) (s : State) : Host.Outcome State Fault Refusal :=
  whileRunning (State.evZoneSample reading) s
/-- EVAP_SAMPLE. -/
def execEvapSample (reading : BitVec 12) (s : State) : Host.Outcome State Fault Refusal :=
  whileRunning (State.evEvapSample reading) s
/-- START_DELAY_END. -/
def execStartDelayEnd (s : State) : Host.Outcome State Fault Refusal := whileRunning State.evStartDelayEnd s
/-- COMPRESSOR_RESIZE. -/
def execCompressorResize (s : State) : Host.Outcome State Fault Refusal := whileRunning State.evResize s
/-- MIN_OFF_END. -/
def execMinOffEnd (s : State) : Host.Outcome State Fault Refusal := whileRunning State.evMinOffEnd s
/-- PULL_DOWN. -/
def execPullDown (s : State) : Host.Outcome State Fault Refusal := whileRunning State.evPullDown s
/-- DEFROST_FORCED. -/
def execDefrostForced (s : State) : Host.Outcome State Fault Refusal := whileRunning State.evDefrostForced s
/-- DEFROST_TIME_END. -/
def execDefrostTimeEnd (s : State) : Host.Outcome State Fault Refusal := whileRunning State.evDefrostTime s
/-- DRAIN_END. -/
def execDrainEnd (s : State) : Host.Outcome State Fault Refusal := whileRunning State.evDrainEnd s
/-- FB_OFF_END. -/
def execFbOffEnd (s : State) : Host.Outcome State Fault Refusal := whileRunning State.evFbOffEnd s
/-- FB_ON_END. -/
def execFbOnEnd (s : State) : Host.Outcome State Fault Refusal := whileRunning State.evFbOnEnd s
/-- SETBACK_EXPIRY. -/
def execSetbackExpiry (s : State) : Host.Outcome State Fault Refusal := whileRunning State.evSetbackExpiry s
/-- COMPRESSOR_PROMOTION. -/
def execCompressorPromotion (s : State) : Host.Outcome State Fault Refusal := whileRunning State.evPromotion s

end Sys2Proof.Machine
end

