-- ==== Sys2Proof/Machine/Drive.lean ====
section
/-! DEFINITION. The spiral drive's outcomes, stops, drops and probe, and the drive's events (spec/05). -/

namespace Sys2Proof.Machine

/-! ## Outcomes (R105) -/

/-- The order's fields leave the drive record and the phase is IDLE (R105, step 2). -/
def Drive.cleared (d : Drive) : Drive :=
  { d with phase := .idle, service := none, cams := [], pending := none, brake := none, openChecked := false,
           windowEnd := none }

/-- The order the drive serves, as it stands in the queue. -/
def State.servedOrder (s : State) : Option Order :=
  match s.drive.service with
  | some sv => s.queue.find? fun o => decide (o.id = sv.order)
  | none => none

/-- The late-drop record of a NO_DROP failure opens at the failure; one already present is replaced (R104). -/
def State.openLateDrop (o : Order) (s : State) : State :=
  { s with lateDrop := some { id := o.id, price := o.price, funding := o.funding, origin := o.origin,
                              expiry := s.now + Config.lateDropTime } }

/-- The drive reports an outcome: it releases the VEND claim, clears its record, opens the late-drop record of a NO_DROP, and
the vend queue ends the order (R105, R89). -/
def State.driveReport (st : OrderState) (r : EndReason) (s : State) : State :=
  match s.servedOrder with
  | none => s
  | some o =>
    let s1 := (s.removeClaim .vend).modDrive Drive.cleared
    let s2 := if r = .noDrop then s1.openLateDrop o else s1
    ((s2.endOrder o st r).afterOrders (o.saleOf st)).settle

/-- The order is DONE. -/
def State.driveDone (s : State) : State := s.driveReport .done .done

/-! ## Stops -/

/-- Power is removed and a short-brake of 100 ms starts on the order's spirals (R96, R99, R100, R101). Once a drop has been seen
no failure is pending (R103). -/
def State.stopTurn (p : Option PendingFailure) (s : State) : State :=
  match s.drive.service with
  | none => s
  | some sv =>
    s.modDrive fun d =>
      { d with phase := .brake, cams := [], pending := if sv.dropSeen then none else p,
               brake := some { spirals := sv.spirals, till := s.now + Config.brakeTime, owned := true } }

/-- The phase is START or RUN (R100). -/
def Drive.isTurning (d : Drive) : Bool := decide (d.phase = .start ∨ d.phase = .run)

/-- OPEN_CHECK: 100 ms into a turn the current is compared with the open threshold of the spirals driven (R98, R94). -/
def State.evOpenCheck (current : Nat) (s : State) : State :=
  if s.drive.isTurning && !s.drive.openChecked then
    let s1 := (s.advance (s.drive.turnStart + Config.openCheckTime)).modDrive fun d => { d with openChecked := true }
    if Config.openThreshold * s.drive.drivenCount ≤ current then s1
    else
      match s.drive.service with
      | none => s1
      | some sv =>
        if sv.dropSeen then s1.stopTurn none
        else
          let unfitted := sv.spirals.positions.foldl (fun m q => upd m q fun _ => false) s1.fitted
          { s1 with fitted := unfitted }.driveReport .failed .noMotor
  else s

/-- The cam states with the driven spirals at position `q` changed from `a` to `b`. -/
def moveCam (q : Pos) (a b : CamState) : List Pos → List CamState → List CamState
  | p :: ps, c :: cs => (if p = q ∧ c = a then b else c) :: moveCam q a b ps cs
  | _, cs => cs

/-- The level of a cam switch, away or home. -/
def State.setCam (q : Pos) (away : Bool) (s : State) : State := { s with cams := upd s.cams q fun _ => away }

/-- CAM_LEAVES_HOME: in START the cam is LEFT, and the phase is RUN once every cam is (R99). -/
def State.evCamLeaves (q : Pos) (s : State) : State :=
  let s1 := s.setCam q true
  match s1.drive.phase, s1.drive.service with
  | .start, some sv =>
    let cams := moveCam q .away .left sv.spirals.positions s1.drive.cams
    s1.modDrive fun d =>
      { d with cams := cams, phase := if cams.all fun c => decide (c = .left) then .run else .start }
  | _, _ => s1

/-- CAM_HOMES: in RUN a LEFT cam is HOMED; the last one completes the turn with a short-brake (R101). -/
def State.evCamHomes (q : Pos) (s : State) : State :=
  let s1 := s.setCam q false
  match s1.drive.phase, s1.drive.service with
  | .run, some sv =>
    let cams := moveCam q .left .homed sv.spirals.positions s1.drive.cams
    let s2 := s1.modDrive fun d => { d with cams := cams }
    if cams.all fun c => decide (c = .homed) then s2.stopTurn none else s2
  | _, _ => s1

/-- START_LIMIT: 500 ms into a turn with a cam still AWAY (R99). -/
def State.evStartLimit (s : State) : State :=
  if s.drive.phase = .start && s.drive.cams.any fun c => decide (c = .away) then
    (s.advance (s.drive.turnStart + Config.startLimitTime)).stopTurn (some .noStart)
  else s

/-- JAM_CURRENT: MOTOR_I above the jam threshold of the spirals driven for 200 ms, in START or RUN (R100). -/
def State.evJamCurrent (current : Nat) (s : State) : State :=
  if s.drive.isTurning && decide (Config.jamThreshold * s.drive.drivenCount < current) then s.stopTurn (some .jam) else s

/-- TURN_LIMIT: 4,000 ms into a turn still in START or RUN (R100). -/
def State.evTurnLimit (s : State) : State :=
  if s.drive.isTurning then (s.advance (s.drive.turnStart + Config.turnLimitTime)).stopTurn (some .jam) else s

/-! ## Brakes and windows (R101, R102, R106, R107) -/

/-- The drop window of 1,500 ms opens (R101). -/
def State.openWindow (s : State) : State :=
  s.modDrive fun d => { d with phase := .window, windowEnd := some (s.now + Config.dropWindow) }

/-- The end of the brake of an order: DONE after a drop, else the pending failure, else DONE in blind mode, else the window
(R102, R103, R107). -/
def State.brakeJudged (sv : Service) (pending : Option PendingFailure) (s : State) : State :=
  if sv.dropSeen then s.driveDone
  else
    match pending with
    | some .noStart => s.driveReport .failed .noStart
    | some .jam => s.driveReport .failed .jam
    | none => if s.blind then s.driveDone else s.openWindow

/-- BRAKE_END (R102, R97, R109, R111): the brake of an order is judged; after a brake that SOFT_RESTART left, a waiting turn or a
waiting probe step begins, or the phase is IDLE. -/
def State.evBrakeEnd (s : State) : State :=
  match s.drive.brake with
  | none => s
  | some b =>
    let s1 := (s.advance b.till).modDrive fun d => { d with brake := none }
    match s.drive.phase, s.drive.service with
    | .brake, some sv => if b.owned then s1.brakeJudged sv s.drive.pending else s1.beginTurn sv
    | .brake, none => s1.modDrive Drive.cleared
    | .probing, _ => s1.modDrive fun d => { d with stepEnd := some (s1.now + Config.probeStep) }
    | _, _ => s1

/-- DROP_WINDOW_CLOSE: an extra turn while turns done are no greater than the captured extra turns, else NO_DROP (R102). -/
def State.evWindowClose (s : State) : State :=
  match s.drive.windowEnd, s.drive.service, s.servedOrder with
  | some t, some sv, some o =>
    if s.drive.phase = .window then
      let s1 := s.advance t
      if o.turns ≤ sv.profile.extra then s1.beginTurn sv else s1.driveReport .failed .noDrop
    else s
  | _, _, _ => s

/-! ## Drops (R103, R104, R106) -/

/-- A late drop: LATE_DROPS rises by the price, LATE_DROP goes to the origin link, the record closes (R104). -/
def State.lateDropTaken (r : LateDrop) (s : State) : State :=
  let s1 := (s.count .lateDrops r.price).deliver (.lateDrop r.id r.price r.funding) [r.origin]
  { s1 with lateDrop := none }

/-- The order's first turn waits behind a brake that SOFT_RESTART left, so nothing has been energized for it (R97). -/
def Drive.waitsForBrake (d : Drive) : Bool :=
  match d.phase, d.brake with
  | .brake, some b => !b.owned
  | _, _ => false

/-- DROP: assigned to the turning order if it began at or after the first energizing, else, with no order turning, to the
late-drop record (R103). In BLIND an interruption is no drop (R106). -/
def State.evDrop (early : Bool) (s : State) : State :=
  if s.blind then s
  else
    match s.drive.service with
    | some sv =>
      if early || s.drive.waitsForBrake then s
      else
        let s1 := s.modDrive fun d => { d with service := some { sv with dropSeen := true } }
        if s.drive.phase = .window then s1.driveDone else s1
    | none =>
      match s.lateDrop with
      | some r => s.lateDropTaken r
      | none => s

/-- LATE_DROP_EXPIRY: the record closes (R104). -/
def State.evLateDropExpiry (s : State) : State :=
  match s.lateDrop with
  | some r => { s.advance r.expiry with lateDrop := none }
  | none => s

/-- DROP_FAULT: the drop sensor is BLIND; an order in WINDOW is DONE (R106, R107). -/
def State.evDropFault (s : State) : State :=
  if s.blind then s
  else
    let s1 := { s with blind := true }.broadcast (.system .dropFault 0)
    if s.drive.phase = .window then s1.driveDone else s1

/-- DROP_OK: the drop sensor is NORMAL (R106). -/
def State.evDropOk (s : State) : State :=
  if s.blind then { s with blind := false }.broadcast (.system .dropOk 0) else s

/-! ## The probe (R108, R109) -/

/-- A probe starts: PROBE_WAIT, the result empty, the PROBE claim placed (R109, step 1). -/
def State.startProbe (s : State) : State :=
  (s.modDrive fun d =>
    { d with phase := .probeWait, probePos := none, probeResult := some (Vector.replicate 80 false), stepEnd := none
    }).placeClaim .probe s.settings.budget.probe

/-- The map applied to one selection: NO_MOTOR added or removed (R108). -/
def State.applyMapTo (s : State) (i : Sel) : State :=
  if s.allFitted (s.spiralsOf i) then s.removeHold i .noMotor else s.addHold i .noMotor

/-- The end of a probe: the map is replaced and applied in rising code order, the claim released, the phase IDLE,
PROBE_DONE broadcast; the head, if READY, claims (R108, R109, R82). -/
def State.probeEnd (m : Vector Bool 80) (s : State) : State :=
  let s1 : State := { s with fitted := m }
  let s2 := (allSels.foldl State.applyMapTo s1).removeClaim .probe
  let s3 := s2.modDrive fun d => { d with phase := .idle, probePos := none, probeResult := none, stepEnd := none }
  ((s3.broadcast (.system .probeDone (m.toList.filter id).length)).claimHead).settle

/-- PROBE_STEP_END: the position joins the result if the current is at or above the open threshold of one spiral; then the next
position, or the end after position 79 (R109). -/
def State.evProbeStep (current : Nat) (s : State) : State :=
  match s.drive.probePos, s.drive.probeResult, s.drive.stepEnd with
  | some q, some m, some t =>
    if s.drive.phase = .probing then
      let s1 := s.advance t
      let m1 := if Config.openThreshold ≤ current then upd m q fun _ => true else m
      if h : q.val + 1 < 80 then
        s1.modDrive fun d =>
          { d with probePos := some ⟨q.val + 1, h⟩, probeResult := some m1, stepEnd := some (s1.now + Config.probeStep) }
      else s1.probeEnd m1
    else s
  | _, _, _ => s

/-! ## SOFT_RESTART (R111) -/

/-- The drive stops the order it serves: a turn ends in a short-brake that is no order's, a brake runs on without the order, a
window closes (R111). -/
def Drive.restarted (now : Nat) (d : Drive) : Drive :=
  match d.service with
  | none => d
  | some sv =>
    let left (b : Option Brake) : Drive := { d.cleared with phase := .brake, brake := b }
    match d.phase with
    | .start => left (some { spirals := sv.spirals, till := now + Config.brakeTime, owned := false })
    | .run => left (some { spirals := sv.spirals, till := now + Config.brakeTime, owned := false })
    | .brake => left (d.brake.map fun b => { b with owned := false })
    | _ => d.cleared

/-- A TURNING order is stopped and fails RESTART: its claim is released, the drive record cleared but for a running brake, and
the order ends (R105, R111, R93). -/
def State.restartTurning (s : State) (o : Order) : State :=
  ((s.removeClaim .vend).modDrive (Drive.restarted s.now)).endOrder o .failed .restart

/-! ## The commands -/

/-- OPEN_CHECK. -/
def execOpenCheck (current : Nat) (s : State) : Host.Outcome State Fault Refusal := whileRunning (State.evOpenCheck current) s
/-- CAM_LEAVES_HOME. -/
def execCamLeavesHome (pos : Pos) (s : State) : Host.Outcome State Fault Refusal := whileRunning (State.evCamLeaves pos) s
/-- START_LIMIT. -/
def execStartLimit (s : State) : Host.Outcome State Fault Refusal := whileRunning State.evStartLimit s
/-- JAM_CURRENT. -/
def execJamCurrent (current : Nat) (s : State) : Host.Outcome State Fault Refusal :=
  whileRunning (State.evJamCurrent current) s
/-- TURN_LIMIT. -/
def execTurnLimit (s : State) : Host.Outcome State Fault Refusal := whileRunning State.evTurnLimit s
/-- CAM_HOMES. -/
def execCamHomes (pos : Pos) (s : State) : Host.Outcome State Fault Refusal := whileRunning (State.evCamHomes pos) s
/-- BRAKE_END. -/
def execBrakeEnd (s : State) : Host.Outcome State Fault Refusal := whileRunning State.evBrakeEnd s
/-- DROP_WINDOW_CLOSE. -/
def execDropWindowClose (s : State) : Host.Outcome State Fault Refusal := whileRunning State.evWindowClose s
/-- DROP. -/
def execDrop (early : Bool) (s : State) : Host.Outcome State Fault Refusal := whileRunning (State.evDrop early) s
/-- LATE_DROP_EXPIRY. -/
def execLateDropExpiry (s : State) : Host.Outcome State Fault Refusal := whileRunning State.evLateDropExpiry s
/-- DROP_FAULT. -/
def execDropFault (s : State) : Host.Outcome State Fault Refusal := whileRunning State.evDropFault s
/-- DROP_OK. -/
def execDropOk (s : State) : Host.Outcome State Fault Refusal := whileRunning State.evDropOk s
/-- PROBE_STEP_END. -/
def execProbeStepEnd (current : Nat) (s : State) : Host.Outcome State Fault Refusal :=
  whileRunning (State.evProbeStep current) s

end Sys2Proof.Machine
end

