-- ==== Sys2Proof/Machine/Pins.lean ====
section
/-! DEFINITION. The output pins (00, section 5) as functions of the records that drive them. Every output is off while the part does
not run (R164). -/

namespace Sys2Proof.Machine

/-- What a matrix line does: off, driven, or its winding shorted by a brake (R94). -/
inductive Line where
  | off | on | shorted
  deriving DecidableEq, Repr

/-- The part runs, so its outputs may be on (R164). -/
def State.isUp (s : State) : Bool := decide (s.power = .running)

/-- The positions energized now: those of a turn that have not homed, or the probe position (R94, R101, R109). -/
def State.energized (s : State) : List Pos :=
  if !s.isUp then []
  else
    match s.drive.phase, s.drive.service, s.drive.probePos, s.drive.stepEnd with
    | .start, some sv, _, _ => sv.spirals.positions
    | .run, some sv, _, _ =>
      ((sv.spirals.positions.zip s.drive.cams).filter fun p => decide (p.2 ≠ .homed)).map (·.1)
    | .probing, _, some q, some _ => [q]
    | _, _, _, _ => []

/-- ROWn (R94). -/
def State.rowPin (s : State) (r : Row) : Bool := s.energized.any fun q => decide (rowOf q = r)

/-- COLn: driven for an energized spiral, shorted for a spiral being braked (R94). -/
def State.colPin (s : State) (c : Fin 10) : Line :=
  if s.energized.any fun q => decide (colOf q = c) then .on
  else
    match s.drive.brake with
    | some b => if s.isUp && b.spirals.positions.any fun q => decide (colOf q = c) then .shorted else .off
    | none => .off

/-- The duty of the row driver in per cent (R94, R96, R109): 0 while no spiral is energized, 30 % in a probe step, and in a turn
30 % at its start, rising in a straight line to the run duty over the ramp time. -/
def State.duty (s : State) : Nat :=
  match s.energized, s.drive.phase, s.drive.service with
  | [], _, _ => 0
  | _, .probing, _ => Config.startDuty
  | _, _, some sv =>
    let t := s.now - s.drive.turnStart
    if sv.profile.ramp ≤ t then sv.profile.duty
    else Config.startDuty + (sv.profile.duty - Config.startDuty) * t / sv.profile.ramp
  | _, _, none => 0

/-- GATE (R34). -/
def State.gatePin (s : State) : Bool := s.isUp && s.coin.gateEnd.isSome
/-- DIVERT, energized means cashbox (R34). -/
def State.divertPin (s : State) : Bool := s.isUp && s.coin.divert
/-- EJECTn (R59). -/
def State.ejectPin (s : State) (i : TubeNo) : Bool :=
  s.isUp && match s.payout.current with
    | some e => e.driven && decide (e.tube = i)
    | none => false
/-- COMP: the relay is closed while the run start is present (R132). -/
def State.compPin (s : State) : Bool := s.isUp && s.cooling.runStart.isSome
/-- FAN: with the door closed, while the relay is closed or an OFF_CYCLE defrost runs (R138). -/
def State.fanPin (s : State) : Bool :=
  s.isUp && !s.doorOpen &&
    (s.cooling.runStart.isSome ||
      (decide (s.cooling.state = .defrost) && decide (s.cooling.defrostKind = some .offCycle)))
/-- HEAT (R141). -/
def State.heatPin (s : State) : Bool := s.isUp && s.cooling.heat
/-- OUT0, the lighting: on from the grant of the LIGHTING claim (R144). -/
def State.out0Pin (s : State) : Bool := s.isUp && s.isGranted .lighting
/-- OUT1, the exact-change lamp (R55). -/
def State.out1Pin (s : State) : Bool := s.isUp && s.exactChange
/-- OUT2 (R186). -/
def State.out2Pin (s : State) : Bool := s.isUp && s.out2
/-- OUT3 (R186). -/
def State.out3Pin (s : State) : Bool := s.isUp && s.out3

end Sys2Proof.Machine
end

