-- ==== Sys2Proof/Machine/AuditRequests.lean ====
section
/-! DEFINITION. The owners' answers to the AUDIT requests (spec/02 R47, spec/07 R146, spec/11 R189), in the layouts of 10.9. -/

namespace Sys2Proof.Machine

/-- A time ahead in whole seconds, rounded up; 0 once it has passed (log 11). -/
def State.secondsTo (s : State) (t : Nat) : Nat := (t - s.now + 999) / 1000

/-- READ_AUDIT: eight counters of one group of one copy (R189). -/
def State.reqReadAudit (copy group : Byte) (s : State) : Answer :=
  match boolOf copy, boolOf group with
  | some c, some g =>
    let t := if c then s.interim else s.lifetime
    let eight := (t.toList.drop (if g then 8 else 0)).take 8
    answered .ok ([copy, group] ++ eight.flatMap fun n => le32 n.toNat) s
  | _, _ => refuse .badArg s

/-- CLEAR_INTERIM: all sixteen interim copies are 0 (R189). -/
def State.reqClearInterim (s : State) : Answer := answered .ok [] { s with interim := Vector.replicate 16 0 }

/-- One tube's entry of READ_TUBES (R47). -/
def State.tubeEntry (s : State) (i : TubeNo) : List Byte :=
  let c := s.settings.tubes[i]
  let t := s.tubes[i]
  [byte (bits [c.enabled, t.full, t.low, s.wouldTake i])] ++ le16 c.value ++
    [byte c.capacity, byte c.fullMark, byte c.lowMark, byte c.floor, byte t.count]

/-- READ_TUBES (R47). -/
def State.reqReadTubes (s : State) : Answer :=
  let baseline := match s.coin.baseline with
    | some b => le16 b.count.toNat
    | none => le16 0xFFFF
  let lockout := match s.coin.lockoutEnd with
    | some t => s.secondsTo t
    | none => 0
  answered .ok
    (allTubes.flatMap s.tubeEntry ++ [byte (bit s.exactChange)] ++ baseline ++
      [byte s.coin.inFlight.length, byte s.coin.rejectCount, byte lockout]) s

/-- A sensor as READ_COOLING reports it: filtered temperature and status (R146). -/
def Sensor.report (x : Sensor) : List Byte := tempOpt16 x.filtered ++ [byte (bit x.fault)]

/-- A last raw reading, 0xFFFF before the first sample (10.9). -/
def rawReport : Option (BitVec 12) → List Byte
  | some a => le16 a.toNat
  | none => le16 0xFFFF

/-- The time since the run start while the relay is closed, else since the last stop, in ms (R146). -/
def State.sinceSwitch (s : State) : Option Nat :=
  match s.cooling.runStart, s.cooling.lastStop with
  | some t, _ => some (s.now - t)
  | none, some t => some (s.now - t)
  | none, none => none

/-- That time as its two-byte field: 0xFFFF where absent, a free value above 65,534 s (10.9; log 9). -/
def State.switchField (s : State) : List Byte :=
  match s.sinceSwitch with
  | none => le16 0xFFFF
  | some d => if d / 1000 ≤ 65534 then le16 (d / 1000) else le16 (Config.freeSeconds s.free).toNat

/-- The field needs a free value. -/
def State.switchFree (s : State) : Bool :=
  match s.sinceSwitch with
  | some d => decide (65534 < d / 1000)
  | none => false

/-- The seconds left in DEFROST or DRAIN, 0 in other states (R146). -/
def State.defrostLeft (s : State) : Nat :=
  match s.cooling.state, s.cooling.defrostStart, s.cooling.drainStart with
  | .defrost, some t, _ => s.secondsTo (t + Config.defrostTime)
  | .drain, _, some t => s.secondsTo (t + Config.drainTime)
  | _, _, _ => 0

/-- READ_COOLING (R146). While the setback timer is stopped its seconds left read 0 (log 46). -/
def State.reqReadCooling (s : State) : Answer :=
  let c := s.cooling
  let phase := match c.fallback with
    | some p => byte p.code
    | none => 0xFF
  let setback := match c.setbackEnd with
    | some t => s.secondsTo t
    | none => 0
  let body :=
    [byte c.state.code, phase, byte c.mode.code] ++ temp16 c.effective ++ temp16 s.cutIn ++ temp16 s.cutOut ++
      c.zone.report ++ c.evap.report ++ rawReport c.zone.raw ++ rawReport c.evap.raw ++
      le16 (c.accumulated / Config.minute) ++ s.switchField ++
      [byte (bits [s.isDue, s.isForced, c.requested, s.heatPin, s.fanPin, s.compPin, s.out0Pin, c.pullDown])] ++
      le16 s.defrostLeft ++ le16 setback ++ coolingBytes s.settings.cooling s.settings.zones
  answered .ok body (if s.switchFree then s.useFree else s)

end Sys2Proof.Machine
end

