-- ==== Sys2Proof/Machine/CardRequests.lean ====
section
/-! DEFINITION. The card session controller's answers to the card requests (spec/06, R114, R118, R122). -/

namespace Sys2Proof.Machine

/-- CARD_OPEN (R114): the session is CARD, the record opens with its idle timer, and it is activity. -/
def State.reqCardOpen (l : Link) (funds : Word16) (s : State) : Answer :=
  if funds.toNat = 0 ∨ Config.maxAmount < funds.toNat then refuse .badArg s
  else if s.credit.session ≠ .idle then refuse .state s
  else
    let s1 := s.setSession .card
    let s2 : State :=
      { s1 with card := some { link := l, funds := funds.toNat, reserved := 0, idleEnd := none, closing := none } }
    answered .ok (le16 funds.toNat ++ [byte s.settings.sales.cardIdle]) s2.startCardIdle.activity.settle

/-- An approved order is READY, without a deadline, and ORDER_STATE goes out (R118). -/
def State.approve (o : Order) (s : State) : State :=
  (s.modOrder o.id fun x => { x with state := .ready, deadline := none }).stateNotice o .ready

/-- The order that a link may approve or deny under an id (R118, check 2). -/
def State.cardOrder (s : State) (l : Link) (id : Nat) : Option Order :=
  s.queue.find? fun o => decide (o.id = id) && decide (o.funding = .card) && decide (o.cardLink = some l)

/-- CARD_APPROVE (R118). -/
def State.reqCardApprove (l : Link) (id decision : Byte) (s : State) : Answer :=
  match boolOf decision with
  | none => refuse .badArg s
  | some yes =>
    if id = 0 then refuse .badArg s
    else
      match s.cardOrder l id.toNat with
      | some o =>
        if o.state ≠ .waitApproval then refuse .state s
        else if yes then answered .ok [] (s.approve o).claimHead.settle
        else answered .ok [] ((s.cancelOne .denied o).afterOrders none).settle
      | none =>
        if s.lapsed.any fun e => decide (e.id = id.toNat) && decide (e.link = l) then refuse .tooLate s
        else refuse .notFound s

/-- CARD_CLOSE (R122): the response carries the session after the close and the funds as they then stand. -/
def State.reqCardClose (l : Link) (s : State) : Answer :=
  match s.card with
  | none => refuse .state s
  | some c =>
    if s.credit.session ≠ .card then refuse .state s
    else if c.link ≠ l then refuse .state s
    else
      let s1 := s.closeCard .closed
      answered .ok ([byte s1.credit.session.code] ++ le16 c.funds) s1.settle

end Sys2Proof.Machine
end

