-- ==== Sys2Proof/Machine/ConfigRequests.lean ====
section
/-! DEFINITION. The owners' answers to the CONFIG requests other than SET_LINK (spec/01 R8, spec/02 R31 and R45, spec/04 R76 and
R77, spec/07 R145, spec/09 R165, spec/11 R191). -/

namespace Sys2Proof.Machine

/-! ## Selections (R76, R77) -/

/-- SET_PRICE (R76). -/
def State.reqSetPrice (l : Link) (sel : Byte) (price : Word16) (s : State) : Answer :=
  match selOf sel, amountOf price with
  | some i, some p =>
    if s.settings.sels[i].protect ∧ s.holder ≠ some l then refuse .isProtected s
    else answered .ok [] (s.modSelSettings i fun e => { e with price := p })
  | _, _ => refuse .badArg s

/-- The available flag of SET_SELECTION: DISABLED added or removed (R74, R77). -/
def State.setAvailable (i : Sel) (available : Bool) (s : State) : State :=
  if available then s.removeHold i .disabled else s.addHold i .disabled

/-- The stock of SET_SELECTION: 0 adds SOLD_OUT; a changed stock above 0 or UNTRACKED removes it and returns the no-drop run
to 0 (R77; log 34). -/
def State.setStock (i : Sel) (stock : Option Nat) (s : State) : State :=
  let old := s.sels[i].stock
  let s1 := s.modSel i fun e => { e with stock := stock }
  if stock = some 0 then s1.addHold i .soldOut
  else if stock = old then s1
  else (s1.modSel i fun e => { e with noDropRun := 0 }).removeHold i .soldOut

/-- The accepted SET_SELECTION: the entry, then the hold kinds in the order of R74's table (R77, R152). -/
def State.setSelection (i : Sel) (a : SelectionNew) (s : State) : State :=
  let changed := s.settings.sels[i].perishable ≠ a.perishable
  let s1 := s.modSelSettings i fun e =>
    { e with price := a.price, column := a.column, pair := a.pair, domain := a.domain, perishable := a.perishable }
  let s2 := (s1.setAvailable i a.available).setStock i a.stock
  (if changed then s2.agreeSafety i else s2).removeHold i .noMotor

/-- The spirals a SET_SELECTION names (R77). -/
def newSpirals (i : Sel) (a : SelectionNew) : Spirals := { first := posAt (rowOf i) a.column, pair := a.pair }

/-- SET_SELECTION (R77). -/
def State.reqSetSelection (a : SelectionArgs) (s : State) : Answer :=
  match selOf a.sel, selectionNew a with
  | some i, some n =>
    if !s.allFitted (newSpirals i n) then refuse .badArg s
    else if s.settings.sels[i].protect ∧ newSpirals i n ≠ s.spiralsOf i then refuse .isProtected s
    else answered .ok [] (s.endingOrders (State.setSelection i n)).settle
  | _, _ => refuse .badArg s

/-! ## Coin types and tubes (R31, R45) -/

/-- An enabled type that names a tube has that tube's value (R31, check 2). -/
def State.valueAgrees (s : State) (c : CoinType) : Bool :=
  match c.dest with
  | some i => decide (s.settings.tubes[i].value = c.value)
  | none => true

/-- Two coin types share a value of F and a value of A (R31, check 3). -/
def CoinType.overlaps (c d : CoinType) : Bool :=
  decide (c.fMin ≤ d.fMax ∧ d.fMin ≤ c.fMax ∧ c.aMin ≤ d.aMax ∧ d.aMin ≤ c.aMax)

/-- SET_COIN_TYPE (R31). -/
def State.reqSetCoinType (a : CoinTypeArgs) (s : State) : Answer :=
  match coinTypeNew a with
  | none => refuse .badArg s
  | some (t, c) =>
    if c.enabled && !s.valueAgrees c then refuse .badArg s
    else if c.enabled && (List.finRange 8).any fun u =>
        decide (u ≠ t) && s.settings.coins[u].enabled && c.overlaps s.settings.coins[u] then refuse .conflict s
    else answered .ok [] { s with settings := { s.settings with coins := upd s.settings.coins t fun _ => c } }

/-- The accepted SET_TUBE: settings, capacity, corrections on the present sensors, exact change (R45). -/
def State.setTube (i : TubeNo) (t : TubeSettings) (s : State) : State :=
  let s1 : State := { s with settings := { s.settings with tubes := upd s.settings.tubes i fun _ => t } }
  let s2 := if t.capacity < s1.tubes[i].count then s1.adjustTo i t.capacity else s1
  (s2.correctTube i).evalExact

/-- SET_TUBE (R45). -/
def State.reqSetTube (a : TubeArgs) (s : State) : Answer :=
  match tubeNew a with
  | none => refuse .badArg s
  | some (i, t) =>
    if (List.finRange 8).any fun u =>
        s.settings.coins[u].enabled && decide (s.settings.coins[u].dest = some i) &&
          decide (s.settings.coins[u].value ≠ t.value) then refuse .badArg s
    else if t.value ≠ s.settings.tubes[i].value ∧ 0 < s.tubes[i].count then refuse .state s
    else if s.payout.isHeld then refuse .busy s
    else answered .ok [] (s.setTube i t)

/-! ## Cooling, budget and sales (R145, R165, R8) -/

/-- The changes of the row zones, taken by the safety monitor in rising code order (R152). -/
def State.zonesChanged (old : Vector Zone 8) (s : State) : State :=
  (allSels.filter fun i => decide (old[rowOf i] ≠ s.settings.zones[rowOf i])).foldl State.agreeSafety s

/-- The accepted SET_COOLING: settings and zones, setpoint, the safety monitor's zone changes and then the change of cooling enable
(R145, R151), and a defrost that has become forced (R139). A forced or requested one that already waits for 60 s of the run goes on
waiting for a zone sample. -/
def State.setCooling (c : CoolingSettings) (z : Vector Zone 8) (s : State) : State :=
  let was := s.settings.cooling.enable
  let s1 := ({ s with settings := { s.settings with cooling := c, zones := z } } : State).recompute
  let s2 := s1.endingOrders fun x =>
    let y := x.zonesChanged s.settings.zones
    if was && !c.enable then y.disableCooling.coolingOffHold else y
  let s3 := if was && !c.enable then s2.safetyReported else s2
  ((if !was && c.enable then s3.enableCooling else s3).defrostArises s.mustDefrost).settle

/-- SET_COOLING (R145). -/
def State.reqSetCooling (a : CoolingArgs) (s : State) : Answer :=
  match coolingNew a with
  | none => refuse .badArg s
  | some (c, z) => answered .ok [] (s.setCooling c z)

/-- The size in force for an owner's waiting claim (R157, R165). -/
def State.sizeInForce (s : State) (o : Owner) : Nat :=
  match o with
  | .vend => match s.queue with
    | h :: _ => s.vendSize h.spirals
    | [] => s.settings.budget.motor
  | .payout => s.settings.budget.payout
  | .compressor => s.settings.budget.start
  | .heater => s.settings.budget.heater
  | .lighting => s.settings.budget.lighting
  | .probe => s.settings.budget.probe

/-- The accepted SET_BUDGET: waiting claims take the sizes in force, and a pass is made (R165). -/
def State.setBudget (b : BudgetSettings) (s : State) : State :=
  let s1 : State := { s with settings := { s.settings with budget := b } }
  ((s1.setClaims (s1.claims.map fun c => if c.granted then c else { c with size := s1.sizeInForce c.owner })).grantPass).settle

/-- SET_BUDGET (R165). -/
def State.reqSetBudget (a : BudgetArgs) (s : State) : Answer :=
  match budgetNew a with
  | none => refuse .badArg s
  | some b => answered .ok [] (s.setBudget b)

/-- SET_SALES: the settings are replaced whole, and a changed horizon evaluates the exact-change flag (R8, R54). -/
def State.reqSetSales (a : SalesArgs) (s : State) : Answer :=
  match salesNew a with
  | none => refuse .badArg s
  | some x =>
    let s1 : State := { s with settings := { s.settings with sales := x } }
    answered .ok [] (if x.horizon = s.settings.sales.horizon then s1 else s1.evalExact)

/-! ## Saving (R191) -/

/-- SAVE_SETTINGS: a snapshot is taken and its write begins; BUSY while one is being written (R191). -/
def State.reqSaveSettings (s : State) : Answer :=
  if s.store.saving.isSome then refuse .busy s
  else answered .accepted [] { s with store := { s.store with saving := some s.settings } }

end Sys2Proof.Machine
end

