-- ==== Sys2Proof/Machine/LinkRequests.lean ====
section
/-! DEFINITION. The owners' answers to the link requests and SET_LINK (spec/10, R174 to R177, R180). -/

namespace Sys2Proof.Machine

/-- IDENT: part code 0x3C40, revision 1, the link (R174). -/
def State.reqIdent (l : Link) (s : State) : Answer := answered .ok (le16 0x3C40 ++ [1, byte l.val]) s

/-- FETCH_NOTICES: up to 4 notices leave from the front; the overflow flag is reported and cleared (R180). -/
def State.reqFetchNotices (l : Link) (s : State) : Answer :=
  let p := s.links[l]
  let out := p.notices.take Config.fetchSize
  let rest := p.notices.drop Config.fetchSize
  answered .ok ([byte out.length, byte (bit p.overflow), byte rest.length] ++ out.flatMap Notice.entry)
    (s.modPort l fun p => { p with notices := p.notices.drop Config.fetchSize, overflow := false })

/-- LINK_STATUS (R174). -/
def State.reqLinkStatus (l : Link) (s : State) : Answer :=
  let p := s.links[l]
  answered .ok
    ([byte l.val, byte p.errors.toNat, byte (bit p.overflow), byte p.notices.length, byte p.backlog.length,
      byte (bits [s.atn l, decide (s.holder = some l)])] ++ linkSettingsBytes (s.linkSettings l)) s

/-- CLEAR_LINK_ERRORS: the flags named are cleared; a position above BACKLOG is BAD_ARG (R175). -/
def State.reqClearLinkErrors (l : Link) (mask : Byte) (s : State) : Answer :=
  match setOf 6 mask with
  | none => refuse .badArg s
  | some m =>
    let s1 := s.modPort l fun p => { p with errors := p.errors &&& ~~~ m }
    answered .ok [byte s1.links[l].errors.toNat] s1

/-- LINK_RESET (R176, R125): the responses not yet begun are discarded, the queue emptied, flags cleared, privilege released, the
card session of this link closed. The front response is the one being sent (log 23). -/
def State.reqLinkReset (l : Link) (s : State) : Answer :=
  let s1 := s.modPort l fun p =>
    { p with backlog := p.backlog.take 1, notices := [], overflow := false, errors := 0, rx := .awaitSync }
  let s2 : State := if s1.holder = some l then s1.releasePrivilege else s1
  let s3 : State :=
    match s2.card with
    | some c => if c.link = l ∧ s2.credit.session = Session.card then s2.closeCard .linkReset else s2
    | none => s2
  answered .ok [] s3.settle

/-- Some link would have the SERVICE role with these settings in place (R177, check 2). -/
def hasService (ks : Vector LinkSettings 3) : Bool := allLinks.any fun l => ks[l].roles.getLsbD Role.service.code

/-- SET_LINK (R177). -/
def State.reqSetLink (a : LinkArgs) (s : State) : Answer :=
  match linkNew a with
  | none => refuse .badArg s
  | some (n, k) =>
    let ks := upd s.settings.links n fun _ => k
    if hasService ks then answered .ok [] { s with settings := { s.settings with links := ks } }
    else refuse .conflict s

end Sys2Proof.Machine
end

