-- ==== Sys2Proof/Machine/SellRequests.lean ====
section
/-! DEFINITION. The owners' answers to the selling requests and TEST_TURN (spec/01, R9, R15, R16, R24; spec/04, R79, R83 to R86). -/

namespace Sys2Proof.Machine

/-! ## Placing orders -/

/-- The orders for a selection now in the queue (R75, R79). -/
def State.ordersFor (s : State) (i : Sel) : Nat := (s.queue.filter fun o => decide (o.sel = i)).length

/-- Tracked stock is taken up by the queue's orders for the selection (R83, check 6). -/
def State.stockTaken (s : State) (i : Sel) : Bool :=
  match s.sels[i].stock with
  | some n => decide (n ≤ s.ordersFor i)
  | none => false

/-- An order has been created: the acceptance is activity, the head claims, and the response gives the id and the first state
(R83, R92; log 12). -/
def State.orderPlaced (id : Nat) (st : OrderState) (s : State) : Answer :=
  answered .accepted [byte id, byte st.code] s.activity.claimHead.settle

/-- A CASH order at this price: its price is reserved (R9). -/
def State.placeCash (l : Link) (i : Sel) (price : Nat) (s : State) : Answer :=
  ((s.modCredit fun c => { c with reserved := c.reserved + price }).createOrder i price .cash l none .ready none).orderPlaced
    s.nextId .ready

/-- A CARD order at this price: reserved on the card, waiting for approval, the idle timer stopped (R115). -/
def State.placeCard (l : Link) (c : CardSession) (i : Sel) (price : Nat) (s : State) : Answer :=
  let s1 := s.createOrder i price .card l (some c.link) .waitApproval (some (s.now + Config.approvalTime))
  let s2 := s1.modCard fun c => { c with reserved := c.reserved + price, idleEnd := none }
  (s2.deliver (.approvalNeeded s.nextId price) [c.link]).orderPlaced s.nextId .waitApproval

/-- The funding step of an ORDER (R9, R115). -/
def State.fundOrder (l : Link) (i : Sel) (s : State) : Answer :=
  let price := s.settings.sels[i].price
  match s.credit.session, s.card with
  | .cash, _ =>
    if price ≤ s.credit.cash - s.credit.reserved then s.placeCash l i price else refuse .insufficient s
  | .idle, _ => if price = 0 then (s.setSession .cash).placeCash l i 0 else refuse .insufficient s
  | .card, some c => if price ≤ c.funds - c.reserved then s.placeCard l c i price else refuse .insufficient s
  | _, _ => refuse .state s

/-- ORDER: the checks of R83 in order, then the funding step. -/
def State.reqOrder (l : Link) (sel : Byte) (s : State) : Answer :=
  if s.credit.payoutActive then refuse .busy s
  else if s.doorOpen then refuse .doorOpen s
  else
    match selOf sel with
    | none => refuse .badArg s
    | some i =>
      if !s.inDomain l s.settings.sels[i].domain then refuse .domain s
      else if s.sels[i].holds ≠ 0 then refuse .held s
      else if s.stockTaken i then refuse .stock s
      else if Config.queueSize ≤ s.queue.length then refuse .queueFull s
      else s.fundOrder l i

/-- REMOTE_ORDER: the checks of R84 in order; the session becomes REMOTE and the order is the queue's only one (R84, R23). -/
def State.reqRemoteOrder (l : Link) (sel : Byte) (s : State) : Answer :=
  if s.doorOpen then refuse .doorOpen s
  else
    match selOf sel with
    | none => refuse .badArg s
    | some i =>
      if !s.inDomain l s.settings.sels[i].domain then refuse .domain s
      else if s.sels[i].holds ≠ 0 then refuse .held s
      else if s.sels[i].stock = some 0 then refuse .stock s
      else if s.credit.session ≠ .idle then refuse .state s
      else if !s.queue.isEmpty then refuse .busy s
      else
        ((s.setSession .remote).createOrder i s.settings.sels[i].price .remote l none .ready none).orderPlaced s.nextId .ready

/-- A TEST order has been created; it is no activity (R85, R144). -/
def State.testPlaced (id : Nat) (s : State) : Answer :=
  answered .accepted [byte id, byte OrderState.ready.code] s.claimHead.settle

/-- TEST_TURN (R85). -/
def State.reqTestTurn (l : Link) (sel : Byte) (s : State) : Answer :=
  match selOf sel with
  | none => refuse .badArg s
  | some i =>
    if !s.queue.isEmpty then refuse .busy s
    else if s.payout.isHeld then refuse .busy s
    else if holdsKind s.sels[i].holds .noMotor then refuse .held s
    else (s.createOrder i 0 .test l none .ready none).testPlaced s.nextId

/-! ## Cancelling and returning -/

/-- CANCEL_ORDER (R86). -/
def State.reqCancelOrder (l : Link) (id : Byte) (s : State) : Answer :=
  if id = 0 then refuse .badArg s
  else
    match s.queue.find? fun o => decide (o.id = id.toNat) && decide (o.origin = l) with
    | none => refuse .notFound s
    | some o =>
      if o.state = .turning then refuse .state s
      else answered .ok [] ((s.cancelOne .cancelled o).afterOrders none).settle

/-- The force-vend test refuses a return (R16). -/
def State.forceVendRefuses (s : State) : Bool :=
  s.settings.sales.forceVend && !s.credit.vended && !s.exactChange &&
    allSels.any fun i => decide (s.settings.sels[i].price ≤ s.credit.cash) && decide (s.sels[i].holds = 0)

/-- RETURN (R15). -/
def State.reqReturn (l : Link) (s : State) : Answer :=
  if s.credit.session ≠ .cash then refuse .state s
  else if s.credit.payoutActive then refuse .busy s
  else if s.credit.returnPending.isSome then answered .accepted [] s
  else if s.forceVendRefuses then refuse .forceVend s
  else answered .accepted [] (s.modCredit fun c => { c with returnPending := some l }).creditTests

/-! ## Reading -/

/-- READ_CREDIT (R24). -/
def State.reqReadCredit (s : State) : Answer :=
  let c := s.credit
  let funds := (s.card.map (·.funds)).getD 0
  let unreserved := (s.card.map fun k => k.funds - k.reserved).getD 0
  answered .ok
    ([byte c.session.code] ++ le16 c.cash ++ le16 c.reserved ++ le16 (c.cash - c.reserved) ++
      [byte s.coin.inFlight.length] ++ le16 s.inFlightValue ++
      [byte (bits [c.vended, c.returnPending.isSome, c.payoutActive, s.settings.sales.forceVend,
        s.settings.sales.multiVend])] ++
      le16 c.owed ++ le16 s.settings.sales.creditLimit ++ le16 funds ++ le16 unreserved) s

/-- A stock as its byte (10.9). -/
def stockByte : Option Nat → Byte
  | some n => byte n
  | none => 0xFF

/-- READ_SELECTION (R79). -/
def State.reqReadSelection (sel : Byte) (s : State) : Answer :=
  match selOf sel with
  | none => refuse .badArg s
  | some i =>
    let e := s.settings.sels[i]
    let r := s.sels[i]
    answered .ok
      ([byte i.val] ++ le16 e.price ++ [byte e.column.val, byte (bit e.pair), byte e.domain.val, byte (s.zoneOf i).code,
        byte (bits [e.perishable, e.protect]), stockByte r.stock, byte r.noDropRun] ++ le16 r.saleCount.toNat ++
        [byte r.holds.toNat, byte (s.ordersFor i)]) s

end Sys2Proof.Machine
end

