-- ==== Sys2Proof/Machine/ServiceRequests.lean ====
section
/-! DEFINITION. The owners' answers to the SERVICE requests (spec/02 R46, spec/03 R68, spec/04 R78, spec/05 R110, spec/07 R140,
spec/08 R153, spec/11 R182 to R187). -/

namespace Sys2Proof.Machine

/-- SERVICE_ENTER (R182). -/
def State.reqServiceEnter (l : Link) (s : State) : Answer :=
  if !s.doorOpen then refuse .doorClosed s
  else
    match s.holder with
    | some h => if h = l then answered .ok [] s else refuse .busy s
    | none =>
      let s1 : State := { s with holder := some l }
      answered .ok [] (s1.broadcast (.service l true))

/-- SERVICE_LEAVE from the holder (R183). -/
def State.reqServiceLeave (s : State) : Answer := answered .ok [] s.releasePrivilege.settle

/-- CLEAR_HOLD (R78): the kind is removed; SOLD_OUT returns the no-drop run to 0 whether or not it was present. -/
def State.reqClearHold (sel kind : Byte) (s : State) : Answer :=
  match selOf sel, holdKindOf kind.toNat with
  | some i, some k =>
    if k = .safety then refuse .badArg s
    else if k = .noMotor ∧ ¬ s.allFitted (s.spiralsOf i) then refuse .state s
    else
      let s1 := if k = .soldOut then s.modSel i fun e => { e with noDropRun := 0 } else s
      answered .ok [] (s1.removeHold i k)
  | _, _ => refuse .badArg s

/-- SAFETY_RELEASE (R153). -/
def State.reqSafetyRelease (s : State) : Answer :=
  if s.safety.state ≠ .held then refuse .state s
  else if !s.settings.cooling.enable then refuse .state s
  else if !s.isRecovered then refuse .state s
  else answered .ok [] s.safetyReleased

/-- PROTECT (R185). -/
def State.reqProtect (sel value : Byte) (s : State) : Answer :=
  match selOf sel, boolOf value with
  | some i, some v => answered .ok [] (s.modSelSettings i fun e => { e with protect := v })
  | _, _ => refuse .badArg s

/-- TUBE_DISPENSE (R68): the record of a dispense, its claim, WAIT_GRANT. -/
def State.reqTubeDispense (l : Link) (tube coins : Byte) (s : State) : Answer :=
  match tubeOf tube with
  | none => refuse .badArg s
  | some i =>
    if coins.toNat = 0 ∨ 200 < coins.toNat then refuse .badArg s
    else if s.credit.session ≠ .idle then refuse .state s
    else if s.payout.isHeld then refuse .busy s
    else
      let s1 := s.modPayout fun p =>
        { initPayout with kind := some .dispense, origin := l, tube := some i, requested := coins.toNat,
                          coins := coins.toNat, last := p.last }
      answered .accepted [] s1.claimPayout.settle

/-- PROBE_MOTORS (R110). -/
def State.reqProbeMotors (s : State) : Answer :=
  if s.drive.isProbing then refuse .busy s
  else if !s.queue.isEmpty then refuse .busy s
  else answered .accepted [] s.startProbe.settle

/-- SET_TUBE_COUNT (R46). -/
def State.reqSetTubeCount (tube count : Byte) (s : State) : Answer :=
  match tubeOf tube with
  | none => refuse .badArg s
  | some i =>
    if s.settings.tubes[i].capacity < count.toNat then refuse .badArg s
    else if s.payout.isHeld then refuse .busy s
    else answered .ok [] (s.adjustTo i count.toNat).evalExact

/-- FORCE_DEFROST (R140): a defrost is requested and begins at the first opportunity (R139); a second request changes nothing. -/
def State.reqForceDefrost (s : State) : Answer :=
  if !s.settings.cooling.enable then refuse .state s
  else if s.cooling.state = .defrost ∨ s.cooling.state = .drain then refuse .busy s
  else if s.cooling.requested then answered .ok [] s
  else answered .ok [] (s.modCooling fun c => { c with requested := true }).defrostCheck.settle

/-- SET_OUTPUTS (R186). -/
def State.reqSetOutputs (value : Byte) (s : State) : Answer :=
  match setOf 2 value with
  | none => refuse .badArg s
  | some m => answered .ok [] { s with out2 := m.getLsbD 0, out3 := m.getLsbD 1 }

/-! ## SOFT_RESTART (R187) -/

/-- Step 2 of R187 for one order: TURNING is stopped and fails RESTART, any other is cancelled RESTART (R93). -/
def State.restartOrder (s : State) (o : Order) : State :=
  if o.state = .turning then s.restartTurning o else s.cancelOne .restart o

/-- Step 2 of R187: every order from the head towards the back; a REMOTE session ends with its order (R23, R26). -/
def State.restartOrders (s : State) : State :=
  let s1 := s.queue.foldl State.restartOrder s
  if s1.credit.session = .remote then s1.setSession .idle else s1

/-- SOFT_RESTART, its steps in the order of R187. -/
def State.softRestart (s : State) : State :=
  let s1 := (s.modCredit fun c => { c with returnPending := none }).restartOrders
  let s2 := ((s1.cardEnd .restart).payoutRestarted).releasePrivilege
  let s3 : State := { s2 with coin := { s2.coin with lockoutEnd := none } }
  ((s3.broadcast (.system .restart 0)).creditTests).settle

/-- SOFT_RESTART (R187). -/
def State.reqSoftRestart (s : State) : Answer := answered .ok [] s.softRestart

end Sys2Proof.Machine
end

