-- ==== Sys2Proof/Machine/Frames.lean ====
section
/-! DEFINITION. The link ports: acceptance, the taking of a request and its response, the receiver (spec/10, R167 to R173), and the
meanings of LINK_BYTE, GAP, RESPONSE_SENT and of every request command. -/

namespace Sys2Proof.Machine

/-! ## Acceptance (R173) -/

/-- The groups of the catalogue (10.9). -/
inductive Group where
  | any
  | role (r : Role)
  | sellOrAudit
  deriving DecidableEq, Repr

/-- The group of a request (10.9). -/
def groupOf : Request → Group
  | .ident => .any
  | .fetchNotices => .any
  | .linkStatus => .any
  | .clearLinkErrors _ => .any
  | .linkReset => .any
  | .order _ => .role .sell
  | .cancelOrder _ => .role .sell
  | .returnCredit => .role .sell
  | .readCredit => .role .sell
  | .readSelection _ => .sellOrAudit
  | .cardOpen _ => .role .card
  | .cardApprove _ _ => .role .card
  | .cardClose => .role .card
  | .remoteOrder _ => .role .remote
  | .readAudit _ _ => .role .audit
  | .readTubes => .role .audit
  | .readCooling => .role .audit
  | .clearInterim => .role .audit
  | .setPrice _ _ => .role .config
  | .setSelection _ => .role .config
  | .setCoinType _ => .role .config
  | .setTube _ => .role .config
  | .setCooling _ => .role .config
  | .setBudget _ => .role .config
  | .setLink _ => .role .config
  | .setSales _ => .role .config
  | .saveSettings => .role .config
  | .serviceEnter => .role .service
  | .serviceLeave => .role .service
  | .clearHold _ _ => .role .service
  | .safetyRelease => .role .service
  | .protect _ _ => .role .service
  | .testTurn _ => .role .service
  | .tubeDispense _ _ => .role .service
  | .probeMotors => .role .service
  | .setTubeCount _ _ => .role .service
  | .forceDefrost => .role .service
  | .setOutputs _ => .role .service
  | .softRestart => .role .service

/-- The request needs service privilege: every CONFIG request but SET_PRICE, every SERVICE request but SERVICE_ENTER (R173). -/
def needsPrivilege (r : Request) : Bool :=
  match groupOf r, r with
  | .role .config, .setPrice _ _ => false
  | .role .config, _ => true
  | .role .service, .serviceEnter => false
  | .role .service, _ => true
  | _, _ => false

/-- Check 3 of R173: the link's roles include the request's group. -/
def State.hasGroup (s : State) (l : Link) (r : Request) : Bool :=
  match groupOf r with
  | .any => true
  | .role x => s.hasRole l x
  | .sellOrAudit => s.hasRole l .sell || s.hasRole l .audit

/-- Check 5 of R173 and the effect: the request is handed to its owner. -/
def State.perform (l : Link) (r : Request) : State → Answer :=
  match r with
  | .ident => State.reqIdent l
  | .fetchNotices => State.reqFetchNotices l
  | .linkStatus => State.reqLinkStatus l
  | .clearLinkErrors m => State.reqClearLinkErrors l m
  | .linkReset => State.reqLinkReset l
  | .order i => State.reqOrder l i
  | .cancelOrder id => State.reqCancelOrder l id
  | .returnCredit => State.reqReturn l
  | .readCredit => State.reqReadCredit
  | .readSelection i => State.reqReadSelection i
  | .cardOpen f => State.reqCardOpen l f
  | .cardApprove id d => State.reqCardApprove l id d
  | .cardClose => State.reqCardClose l
  | .remoteOrder i => State.reqRemoteOrder l i
  | .readAudit c g => State.reqReadAudit c g
  | .readTubes => State.reqReadTubes
  | .readCooling => State.reqReadCooling
  | .clearInterim => State.reqClearInterim
  | .setPrice i p => State.reqSetPrice l i p
  | .setSelection a => State.reqSetSelection a
  | .setCoinType a => State.reqSetCoinType a
  | .setTube a => State.reqSetTube a
  | .setCooling a => State.reqSetCooling a
  | .setBudget a => State.reqSetBudget a
  | .setLink a => State.reqSetLink a
  | .setSales a => State.reqSetSales a
  | .saveSettings => State.reqSaveSettings
  | .serviceEnter => State.reqServiceEnter l
  | .serviceLeave => State.reqServiceLeave
  | .clearHold i k => State.reqClearHold i k
  | .safetyRelease => State.reqSafetyRelease
  | .protect i v => State.reqProtect i v
  | .testTurn i => State.reqTestTurn l i
  | .tubeDispense t n => State.reqTubeDispense l t n
  | .probeMotors => State.reqProbeMotors
  | .setTubeCount t n => State.reqSetTubeCount t n
  | .forceDefrost => State.reqForceDefrost
  | .setOutputs v => State.reqSetOutputs v
  | .softRestart => State.reqSoftRestart

/-- Checks 3 to 5 of R173 on a request whose kind and length are right. -/
def State.judge (l : Link) (r : Request) (s : State) : Answer :=
  if !s.hasGroup l r then refuse .role s
  else if needsPrivilege r ∧ s.holder ≠ some l then refuse .privilege s
  else s.perform l r

/-! ## Taking a request (R171) -/

/-- A response joins the back of the backlog (R171). -/
def State.respond (l : Link) (kind : Byte) (a : Answer) : State :=
  a.1.modPort l fun p => { p with backlog := p.backlog ++ [{ kind := responseKind kind, body := a.2 }] }

/-- A completed frame of this kind is taken, unless the backlog holds 2 responses: then BACKLOG is set and nothing else
happens (R171). -/
def State.take (l : Link) (kind : Byte) (f : State → Answer) (s : State) : State :=
  if s.links[l].backlog.length < Config.backlogSize then State.respond l kind (f s) else s.setError l .backlog

/-- A request that came as a complete frame with the right body length (R171, R173). -/
def State.takeRequest (l : Link) (r : Request) (s : State) : State := s.take l r.kind (State.judge l r)

/-- Checks 1 and 2 of R173, then the rest. -/
def State.judgeFrame (l : Link) (kind : Byte) (body : List Byte) (s : State) : Answer :=
  match bodyLength kind with
  | none => refuse .unknownKind s
  | some n =>
    if body.length ≠ n then refuse .badArg s
    else
      match Request.ofBody kind body with
      | some r => s.judge l r
      | none => refuse .unknownKind s

/-- A frame is complete (R169, R171). -/
def State.frameComplete (l : Link) (kind : Byte) (body : List Byte) (s : State) : State :=
  s.take l kind (State.judgeFrame l kind body)

/-! ## The receiver (R169, R170) -/

/-- The receive state changes. -/
def State.setRx (l : Link) (x : RxState) (s : State) : State := s.modPort l fun p => { p with rx := x }

/-- The frame in progress is abandoned with an error flag (R169, R170). -/
def State.abandon (l : Link) (f : ErrFlag) (s : State) : State := (s.setRx l .awaitSync).setError l f

/-- A byte received with its stop bit high (R169). -/
def State.receive (l : Link) (b : Byte) (s : State) : State :=
  match s.links[l].rx with
  | .awaitSync => if b = syncByte then s.setRx l .kind else s.setError l .sync
  | .kind => s.setRx l (.length b)
  | .length k =>
    if Config.maxBody < b.toNat then s.abandon l .length
    else if b.toNat = 0 then s.setRx l (.crcLo k []) else s.setRx l (.body k b.toNat [])
  | .body k n got =>
    if got.length + 1 < n then s.setRx l (.body k n (got ++ [b])) else s.setRx l (.crcLo k (got ++ [b]))
  | .crcLo k body => s.setRx l (.crcHi k body b)
  | .crcHi k body lo =>
    if word16 lo b = crc16 (k :: byte body.length :: body) then (s.setRx l .awaitSync).frameComplete l k body
    else s.abandon l .crc

/-- LINK_BYTE: a byte with its stop bit low is discarded and sets FRAMING (R170). -/
def State.evLinkByte (l : Link) (b : Byte) (stopOk : Bool) (s : State) : State :=
  if stopOk then s.receive l b else s.abandon l .framing

/-- GAP: 20 ms within a frame without the next byte (R170). -/
def State.evGap (l : Link) (s : State) : State :=
  if s.links[l].rx = .awaitSync then s else s.abandon l .gap

/-- RESPONSE_SENT: the front response leaves the backlog (R171). -/
def State.evResponseSent (l : Link) (s : State) : State := s.modPort l fun p => { p with backlog := p.backlog.drop 1 }

/-! ## The commands -/

/-- LINK_BYTE. -/
def execLinkByte (l : Link) (b : Byte) (stopOk : Bool) (s : State) : Host.Outcome State Fault Refusal :=
  whileRunning (State.evLinkByte l b stopOk) s
/-- GAP. -/
def execGap (l : Link) (s : State) : Host.Outcome State Fault Refusal := whileRunning (State.evGap l) s
/-- RESPONSE_SENT. -/
def execResponseSent (l : Link) (s : State) : Host.Outcome State Fault Refusal := whileRunning (State.evResponseSent l) s

/-- A request command while the part runs. -/
def onLink (l : Link) (r : Request) (s : State) : Host.Outcome State Fault Refusal := whileRunning (State.takeRequest l r) s

/-- IDENT. -/
def execIdent (l : Link) (s : State) : Host.Outcome State Fault Refusal := onLink l .ident s
/-- FETCH_NOTICES. -/
def execFetchNotices (l : Link) (s : State) : Host.Outcome State Fault Refusal := onLink l .fetchNotices s
/-- LINK_STATUS. -/
def execLinkStatus (l : Link) (s : State) : Host.Outcome State Fault Refusal := onLink l .linkStatus s
/-- CLEAR_LINK_ERRORS. -/
def execClearLinkErrors (l : Link) (mask : Byte) (s : State) : Host.Outcome State Fault Refusal :=
  onLink l (.clearLinkErrors mask) s
/-- LINK_RESET. -/
def execLinkReset (l : Link) (s : State) : Host.Outcome State Fault Refusal := onLink l .linkReset s
/-- ORDER. -/
def execOrder (l : Link) (sel : Byte) (s : State) : Host.Outcome State Fault Refusal := onLink l (.order sel) s
/-- CANCEL_ORDER. -/
def execCancelOrder (l : Link) (id : Byte) (s : State) : Host.Outcome State Fault Refusal :=
  onLink l (.cancelOrder id) s
/-- RETURN. -/
def execReturnCredit (l : Link) (s : State) : Host.Outcome State Fault Refusal := onLink l .returnCredit s
/-- READ_CREDIT. -/
def execReadCredit (l : Link) (s : State) : Host.Outcome State Fault Refusal := onLink l .readCredit s
/-- READ_SELECTION. -/
def execReadSelection (l : Link) (sel : Byte) (s : State) : Host.Outcome State Fault Refusal :=
  onLink l (.readSelection sel) s
/-- CARD_OPEN. -/
def execCardOpen (l : Link) (funds : Word16) (s : State) : Host.Outcome State Fault Refusal :=
  onLink l (.cardOpen funds) s
/-- CARD_APPROVE. -/
def execCardApprove (l : Link) (id : Byte) (decision : Byte) (s : State) : Host.Outcome State Fault Refusal :=
  onLink l (.cardApprove id decision) s
/-- CARD_CLOSE. -/
def execCardClose (l : Link) (s : State) : Host.Outcome State Fault Refusal := onLink l .cardClose s
/-- REMOTE_ORDER. -/
def execRemoteOrder (l : Link) (sel : Byte) (s : State) : Host.Outcome State Fault Refusal :=
  onLink l (.remoteOrder sel) s
/-- READ_AUDIT. -/
def execReadAudit (l : Link) (copy : Byte) (group : Byte) (s : State) : Host.Outcome State Fault Refusal :=
  onLink l (.readAudit copy group) s
/-- READ_TUBES. -/
def execReadTubes (l : Link) (s : State) : Host.Outcome State Fault Refusal := onLink l .readTubes s
/-- READ_COOLING. -/
def execReadCooling (l : Link) (s : State) : Host.Outcome State Fault Refusal := onLink l .readCooling s
/-- CLEAR_INTERIM. -/
def execClearInterim (l : Link) (s : State) : Host.Outcome State Fault Refusal := onLink l .clearInterim s
/-- SET_PRICE. -/
def execSetPrice (l : Link) (sel : Byte) (price : Word16) (s : State) : Host.Outcome State Fault Refusal :=
  onLink l (.setPrice sel price) s
/-- SET_SELECTION. -/
def execSetSelection (l : Link) (a : SelectionArgs) (s : State) : Host.Outcome State Fault Refusal :=
  onLink l (.setSelection a) s
/-- SET_COIN_TYPE. -/
def execSetCoinType (l : Link) (a : CoinTypeArgs) (s : State) : Host.Outcome State Fault Refusal :=
  onLink l (.setCoinType a) s
/-- SET_TUBE. -/
def execSetTube (l : Link) (a : TubeArgs) (s : State) : Host.Outcome State Fault Refusal := onLink l (.setTube a) s
/-- SET_COOLING. -/
def execSetCooling (l : Link) (a : CoolingArgs) (s : State) : Host.Outcome State Fault Refusal :=
  onLink l (.setCooling a) s
/-- SET_BUDGET. -/
def execSetBudget (l : Link) (a : BudgetArgs) (s : State) : Host.Outcome State Fault Refusal :=
  onLink l (.setBudget a) s
/-- SET_LINK. -/
def execSetLink (l : Link) (a : LinkArgs) (s : State) : Host.Outcome State Fault Refusal := onLink l (.setLink a) s
/-- SET_SALES. -/
def execSetSales (l : Link) (a : SalesArgs) (s : State) : Host.Outcome State Fault Refusal := onLink l (.setSales a) s
/-- SAVE_SETTINGS. -/
def execSaveSettings (l : Link) (s : State) : Host.Outcome State Fault Refusal := onLink l .saveSettings s
/-- SERVICE_ENTER. -/
def execServiceEnter (l : Link) (s : State) : Host.Outcome State Fault Refusal := onLink l .serviceEnter s
/-- SERVICE_LEAVE. -/
def execServiceLeave (l : Link) (s : State) : Host.Outcome State Fault Refusal := onLink l .serviceLeave s
/-- CLEAR_HOLD. -/
def execClearHold (l : Link) (sel : Byte) (kind : Byte) (s : State) : Host.Outcome State Fault Refusal :=
  onLink l (.clearHold sel kind) s
/-- SAFETY_RELEASE. -/
def execSafetyRelease (l : Link) (s : State) : Host.Outcome State Fault Refusal := onLink l .safetyRelease s
/-- PROTECT. -/
def execProtect (l : Link) (sel : Byte) (value : Byte) (s : State) : Host.Outcome State Fault Refusal :=
  onLink l (.protect sel value) s
/-- TEST_TURN. -/
def execTestTurn (l : Link) (sel : Byte) (s : State) : Host.Outcome State Fault Refusal := onLink l (.testTurn sel) s
/-- TUBE_DISPENSE. -/
def execTubeDispense (l : Link) (tube : Byte) (coins : Byte) (s : State) : Host.Outcome State Fault Refusal :=
  onLink l (.tubeDispense tube coins) s
/-- PROBE_MOTORS. -/
def execProbeMotors (l : Link) (s : State) : Host.Outcome State Fault Refusal := onLink l .probeMotors s
/-- SET_TUBE_COUNT. -/
def execSetTubeCount (l : Link) (tube : Byte) (count : Byte) (s : State) : Host.Outcome State Fault Refusal :=
  onLink l (.setTubeCount tube count) s
/-- FORCE_DEFROST. -/
def execForceDefrost (l : Link) (s : State) : Host.Outcome State Fault Refusal := onLink l .forceDefrost s
/-- SET_OUTPUTS. -/
def execSetOutputs (l : Link) (value : Byte) (s : State) : Host.Outcome State Fault Refusal :=
  onLink l (.setOutputs value) s
/-- SOFT_RESTART. -/
def execSoftRestart (l : Link) (s : State) : Host.Outcome State Fault Refusal := onLink l .softRestart s

end Sys2Proof.Machine
end

