-- ==== Sys2Proof/Machine/PayoutEvents.lean ====
section
/-! DEFINITION. The payout engine's events (spec/03, R57 to R65), with the meanings of their commands. -/

namespace Sys2Proof.Machine

/-- PLANNING_END: the planner's answer has come (R57, R62). -/
def State.evPlanningEnd (s : State) : State :=
  if s.payout.state = .planning then s.planningDone.settle else s

/-- EJECT_PULSE_END: 40 ms after its start the pulse ends; the window runs on (R59). -/
def State.evPulseEnd (s : State) : State :=
  match s.payout.current with
  | some e =>
    if e.driven then
      (s.advance e.pulseEnd).modPayout fun p => { p with current := some { e with driven := false } }
    else s
  | none => s

/-- EXIT_WINDOW_CLOSE: after a coin the payout goes on or ends; an empty first window gives a second pulse, an empty second one
declares the tube dry (R59, R61). -/
def State.evExitWindow (s : State) : State :=
  match s.payout.current with
  | some e =>
    let s1 := s.advance e.windowEnd
    (match e.seenAt with
      | some t => s1.windowAfterCoin t
      | none => if e.pulse ≤ 1 then s1.windowEmptyFirst e.tube else s1.windowEmptySecond e.tube).settle
  | none => s

/-- NEXT_COIN_START: 120 ms after the exit of the coin before, with its window closed (R59). -/
def State.evNextCoin (s : State) : State :=
  match s.payout.nextAt with
  | some t => if s.payout.state = .ejecting then (s.advance t).beginCoin else s
  | none => s

/-- `paid` after a planned coin of value `v`: within 0…60,000, else a free value (R56, R60; log 10). -/
def paidAfter (paid v free : Nat) : Nat :=
  if paid + v ≤ Config.maxAmount then paid + v else (Config.freePaid free).val

/-- The current coin is seen at the exit: its tube's count falls, paid rises, remaining falls, and the money of its kind moves
(R60, R19, R69); owed stays within the credit (R1, R21; log 36). -/
def State.coinSeen (e : Ejection) (s : State) : State :=
  let v := s.settings.tubes[e.tube].value
  let s1 := if s.payout.paid + v ≤ Config.maxAmount then s else s.useFree
  let s2 := (s1.countOut e.tube).modPayout fun p =>
    { p with current := some { e with seenAt := some s.now },
             paid := paidAfter p.paid v s.free,
             remaining := if p.kind = some .session then takeCoin v p.remaining else p.remaining,
             coins := if p.kind = some .session then p.coins else p.coins - 1 }
  if s.payout.kind = some .session then
    (s2.modCredit fun c => { c with cash := c.cash - v, owed := min c.owed (c.cash - v) }).count .paidOut v
  else s2.count .tubeDispense v

/-- A surplus coin of tube `i` under the payout that made the last attempt (R63, R64). -/
def State.surplusCoin (i : TubeNo) (last : LastTube) (s : State) : State :=
  let v := s.settings.tubes[i].value
  let s1 := s.countOut i
  let s2 := match last.kind with
    | .session => (s1.count .paidOut v).count .payoutSurplus v
    | .dispense => s1.count .tubeDispense v
  s2.deliver (.payout i.val v .surplus) [last.origin]

/-- EXIT_PULSE: the coin of an open window, or a surplus coin; before any coin has been ejected it is ignored (R60, R63). -/
def State.evExitPulse (s : State) : State :=
  match s.payout.current, s.payout.last with
  | some e, last =>
    if e.seenAt.isNone then (s.coinSeen e).evalExact
    else
      match last with
      | some l => (s.surplusCoin e.tube l).evalExact
      | none => s
  | none, some l => (s.surplusCoin l.tube l).evalExact
  | none, none => s

/-! ## The commands -/

/-- PLANNING_END. -/
def execPlanningEnd (s : State) : Host.Outcome State Fault Refusal := whileRunning State.evPlanningEnd s
/-- EJECT_PULSE_END. -/
def execEjectPulseEnd (s : State) : Host.Outcome State Fault Refusal := whileRunning State.evPulseEnd s
/-- EXIT_WINDOW_CLOSE. -/
def execExitWindowClose (s : State) : Host.Outcome State Fault Refusal := whileRunning State.evExitWindow s
/-- NEXT_COIN_START. -/
def execNextCoinStart (s : State) : Host.Outcome State Fault Refusal := whileRunning State.evNextCoin s
/-- EXIT_PULSE. -/
def execExitPulse (s : State) : Host.Outcome State Fault Refusal := whileRunning State.evExitPulse s

end Sys2Proof.Machine
end

