-- ==== Sys2Proof/Machine/Regions.lean ====
section
/-! DEFINITION. The stored regions as bytes under the CRC-16 of R168 (spec/11, R190 to R193). The layout of a region is the model's
choice: the contents in the order of R190, little-endian, in the forms of 10.9 where it has one (log 6). -/

namespace Sys2Proof.Machine

/-! ## The settings region (R190) -/

/-- A selection's settings. -/
def SelSettings.bytes (e : SelSettings) : List Byte :=
  le16 e.price ++ [byte e.column.val, byte (bit e.pair), byte e.domain.val, byte (bits [e.perishable, e.protect])]

/-- A coin type. -/
def CoinType.bytes (c : CoinType) : List Byte :=
  [byte (bit c.enabled)] ++ le16 c.value ++ le16 c.fMin ++ le16 c.fMax ++
    [byte c.aMin, byte c.aMax, (match c.dest with | some i => byte i.val | none => 0xFF)]

/-- A tube's settings. -/
def TubeSettings.bytes (t : TubeSettings) : List Byte :=
  [byte (bit t.enabled)] ++ le16 t.value ++ [byte t.capacity, byte t.fullMark, byte t.lowMark, byte t.floor]

/-- The budgets and claim sizes. -/
def BudgetSettings.bytes (b : BudgetSettings) : List Byte :=
  [byte b.normal, byte b.low, byte b.motor, byte b.probe, byte b.payout, byte b.start, byte b.run, byte b.heater,
    byte b.lighting]

/-- A motion profile. -/
def Profile.bytes (p : Profile) : List Byte := le16 p.ramp ++ [byte p.duty, byte p.extra]

/-- The sales settings. -/
def SalesSettings.bytes (x : SalesSettings) : List Byte :=
  le16 x.creditLimit ++ le16 x.horizon ++
    [byte (bit x.forceVend), byte (bit x.multiVend), byte x.rejectThreshold, byte x.cardIdle] ++ x.ambient.bytes ++
    x.chilled.bytes

/-- The contents of the settings region; the row zones stand in the last byte of the cooling settings. -/
def Settings.bytes (c : Settings) : List Byte :=
  c.sels.toList.flatMap SelSettings.bytes ++ c.coins.toList.flatMap CoinType.bytes ++
    c.tubes.toList.flatMap TubeSettings.bytes ++ coolingBytes c.cooling c.zones ++ c.budget.bytes ++
    c.links.toList.flatMap linkSettingsBytes ++ c.sales.bytes

/-! ## The running region (R190) -/

/-- A selection's running fields. -/
def SelRun.bytes (e : SelRun) : List Byte :=
  [(match e.stock with | some n => byte n | none => 0xFF), byte e.noDropRun] ++ le16 e.saleCount.toNat ++
    [e.holds.setWidth 8]

/-- The safety states, in the order of R148. -/
def SafetyState.code : SafetyState → Nat
  | .clear => 0 | .timing => 1 | .held => 2

/-- The contents of the running region. -/
def Running.bytes (r : Running) : List Byte :=
  le16 r.cash ++ r.counts.toList.map byte ++ (r.lifetime.toList.flatMap fun n => le32 n.toNat) ++
    (r.interim.toList.flatMap fun n => le32 n.toNat) ++ r.sels.toList.flatMap SelRun.bytes ++ le32 r.accumulated ++
    [byte r.safety.code, (match r.cause with | some c => byte c.code | none => 0xFF)]

/-! ## Writing and checking (R190, R193) -/

/-- The settings region after a whole write of `c`. -/
def Region.ofSettings (c : Settings) : Region Settings := .written c (crc16 c.bytes)

/-- The running region after a whole write of `r`. -/
def Region.ofRunning (r : Running) : Region Running := .written r (crc16 r.bytes)

/-- The contents of a region whose CRC matches them; none where the region is bad (R193). -/
def Region.checked {α : Type} (bytes : α → List Byte) : Region α → Option α
  | .written c crc => if crc16 (bytes c) = crc then some c else none
  | .torn => none

/-- The settings a power-on takes from the store, if its settings region is not bad (R193). -/
def Store.goodSettings (x : Store) : Option Settings := x.settings.checked Settings.bytes

/-- The running values a power-on takes from the store, if its running region is not bad (R193). -/
def Store.goodRunning (x : Store) : Option Running := x.running.checked Running.bytes

end Sys2Proof.Machine
end

