-- ==== Sys2Proof/Machine/Power.lean ====
section
/-! DEFINITION. The settings store, the stop and the power-on (spec/09 R164, R166; spec/11 R190 to R193; the power-on and
POWER_FAIL rules of every block), with the meanings of their commands. -/

namespace Sys2Proof.Machine

/-! ## The stop (R164, R192) -/

/-- What the running region holds, from the values as they stand (R190). -/
def State.snapshot (s : State) : Running :=
  { cash := s.credit.cash, counts := tabulate fun i => s.tubes[i].count, lifetime := s.lifetime, interim := s.interim,
    sels := tabulate fun i => { s.sels[i] with holds := s.sels[i].holds &&& savedKinds },
    accumulated := s.cooling.accumulated, safety := s.safety.state, cause := s.safety.cause }

/-- Every block's record with nothing loaded, nothing claimed and every output off: what is left of the part while it does not
run (R164; log 5). The waiting commands, the cams, the store, the level of RESET_N and the place in the free values stay. -/
def State.cleared (s : State) : State :=
  { s with
    now := 0, startAfter := none, settings := factorySettings, links := Vector.replicate 3 initPort, credit := idleCredit,
    coin := initCoin,
    tubes := Vector.replicate 5 { count := 0, full := false, low := false }, exactChange := false, payout := initPayout,
    sels := Vector.replicate 80 initSel, queue := [], lastId := 0, drive := initDrive,
    fitted := Vector.replicate 80 true, blind := false, lateDrop := none, card := none, lapsed := [],
    cooling := initCooling factoryCooling 0, safety := initSafety, claims := [], supply := .good, holder := none,
    doorOpen := false, lifetime := Vector.replicate 16 0, interim := Vector.replicate 16 0, out2 := false, out3 := false }

/-- The part stops: the outputs are off, and the store begins its writes (R164, R192). -/
def State.stop (x : SupplyState) (s : State) : State :=
  { s.cleared with power := .saving, supply := x, store := { s.store with stopping := some s.snapshot } }

/-- POWER_FAIL (R164). -/
def State.evPowerFail (s : State) : State := s.stop .powerFail

/-- RESET_N_ASSERT: the part is held until the release; while it runs it makes the same stop (R192). -/
def State.evResetAssert (s : State) : State :=
  let s1 := if s.power = .running then s.stop s.supply else s
  { s1 with resetAsserted := true, startAfter := none }

/-- The settings region after a completed write (R191). -/
def Store.settingsSaved (x : Store) : Store :=
  match x.saving with
  | some c => { x with settings := .ofSettings c, saving := none }
  | none => x

/-- The running region after a completed write (R192). -/
def Store.runningSaved (x : Store) : Store :=
  match x.stopping with
  | some c => { x with running := .ofRunning c, stopping := none }
  | none => x

/-- SETTINGS_SAVE_END: the region holds the snapshot, and SETTINGS_SAVED is broadcast while the part runs (R191, R192). -/
def State.evSettingsSaved (s : State) : State :=
  if s.store.saving.isSome then
    let s1 : State := { s with store := s.store.settingsSaved }
    if s.power = .running then s1.broadcast (.system .settingsSaved 0) else s1
  else s

/-! ## Loading (R193) -/

/-- The store after a loss of the supply: a region whose write is cut short is torn and fails its CRC; of the two writes of a stop the
settings save comes first (R192; log 6). -/
def Store.cut (x : Store) : Store :=
  { settings := if x.saving.isSome then .torn else x.settings,
    running := if x.saving.isNone && x.stopping.isSome then .torn else x.running,
    saving := none, stopping := none }

/-- The running copy of the settings: the settings region if good, else the factory settings (R193). -/
def Store.loadSettings (x : Store) : Settings := x.goodSettings.getD factorySettings

/-- What a bad running region stands for: nothing, and each tube at its low mark if its low sensor is COVERED (R48, R193). -/
def emptyRunning (c : Settings) (t : TubeLevels) : Running :=
  { cash := 0, counts := tabulate fun i => if t.low[i] then c.tubes[i].lowMark else 0,
    lifetime := Vector.replicate 16 0, interim := Vector.replicate 16 0, sels := Vector.replicate 80 initSel,
    accumulated := 0, safety := .clear, cause := none }

/-- The running values the owners are given (R193). -/
def Store.loadRunning (x : Store) (c : Settings) (t : TubeLevels) : Running := x.goodRunning.getD (emptyRunning c t)

/-- Whether the settings region is bad. -/
def Store.settingsLost (x : Store) : Bool := x.goodSettings.isNone

/-! ## Power-on (R193, R166) -/

/-- The supply state the level at power-on gives (R166). -/
def supplyAt (level : Nat) : SupplyState := if 90 < level then .good else if 70 ≤ level then .low else .powerFail

/-- The owners' records from what was loaded, before any notice (R25, R48, R80, R147, R193). A stored count above its capacity is
held at the capacity (log 16). -/
def State.loaded (level : Nat) (t : TubeLevels) (s : State) : State :=
  let c := s.store.loadSettings
  let r := s.store.loadRunning c t
  { s.cleared with
    power := .running, resetAsserted := false, settings := c, supply := supplyAt level,
    credit := { idleCredit with session := if 0 < r.cash then .cash else .idle, cash := r.cash },
    tubes := tabulate fun i =>
      { count := min r.counts[i] c.tubes[i].capacity, full := t.full[i], low := t.low[i] },
    sels := tabulate fun i => { r.sels[i] with holds := r.sels[i].holds &&& savedKinds },
    cooling := initCooling c.cooling r.accumulated,
    safety := if r.safety = .held then { initSafety with state := .held, cause := r.cause, check := false } else initSafety,
    lifetime := r.lifetime, interim := r.interim }

/-- SYSTEM(POWER_UP) is the first notice of every queue, whatever the masks (R181). -/
def State.powerUpNotice (s : State) : State :=
  allLinks.foldl (fun s l => s.push ⟨.system .powerUp 0, none⟩ l) s

/-- The safety monitor at power-on: a restored hold is placed again, else cooling that is off places one (R155). -/
def State.safetyPowerUp (s : State) : State :=
  match s.safety.state, s.safety.cause with
  | .held, some c => s.placeHold c none
  | .held, none => s
  | _, _ => if s.settings.cooling.enable then s else s.coolingOffHold

/-- The notice of a supply found low at power-on (R166). -/
def State.supplyPowerUp (level : Nat) (s : State) : State :=
  if s.supply = .low then s.broadcast (.supply level s.budget false) else s

/-- Power-on: both regions loaded, POWER_UP first, then SETTINGS_LOST, and each owner's power-on state in the order of R193. A level
below 70 % makes the power-fail stop (R166). -/
def State.powerUp (level : Nat) (t : TubeLevels) (s : State) : State :=
  let s1 := (s.loaded level t).powerUpNotice
  let s2 := if s.store.settingsLost then s1.broadcast (.system .settingsLost 0) else s1
  let s3 := if s2.credit.session = .cash then s2.creditNotice .session else s2
  let s4 := ((allTubes.foldl (fun s i => s.correctTube i) s3).evalExact).safetyPowerUp
  let s5 := (s4.startProbe.placeClaim .lighting s4.settings.budget.lighting).defrostCheck
  let s6 := (s5.supplyPowerUp level).settle
  if s6.supply = .powerFail then s6.stop .powerFail else s6

/-- A rise of the supply: writes in progress were cut short; the part starts, or stays held by RESET_N (R192, R193; log 7). -/
def State.supplyRises (level : Nat) (t : TubeLevels) (s : State) : State :=
  let s1 : State := { s with store := s.store.cut }
  if s.resetAsserted then { s1.cleared with power := .stopped } else s1.powerUp level t

/-- A release of RESET_N restarts the part: at once where it stands stopped, after the save where the stop still saves; after a
power failure only at a level above 90 %, and otherwise the 2 s count decides (R164, R192, R193; log 7). -/
def State.resetReleases (level : Nat) (t : TubeLevels) (s : State) : State :=
  if s.resetAsserted then
    let s1 : State := { s with resetAsserted := false }
    if s.supply = .powerFail ∧ level ≤ 90 then s1
    else
      match s.power with
      | .stopped => s1.powerUp level t
      | .saving => { s1 with startAfter := some (level, t) }
      | .running => s1
  else s

/-- RUNNING_REGION_SAVE_END: any settings save in progress has been completed first; the part stops, and starts again at once after
a release of RESET_N during the save (R192, R164; log 7). -/
def State.evRunningSaved (s : State) : State :=
  if s.power = .saving then
    let s1 : State := { s with power := .stopped, startAfter := none, store := s.store.settingsSaved.runningSaved }
    match s.startAfter with
    | some (level, t) => s1.powerUp level t
    | none => s1
  else s

/-- POWER_ON (R193). -/
def State.evPowerOn (cause : PowerOnCause) (level : Nat) (t : TubeLevels) (s : State) : State :=
  match cause with
  | .supplyRise => s.supplyRises level t
  | .resetRelease => s.resetReleases level t

/-- POWER_RECOVERY: after a power-fail stop, with the level above 90 % for 2 s (R164). -/
def State.evPowerRecovery (level : Nat) (t : TubeLevels) (s : State) : State :=
  if s.power = .stopped ∧ s.supply = .powerFail ∧ ¬ s.resetAsserted ∧ 90 < level then s.powerUp level t else s

/-! ## The commands -/

/-- POWER_ON. -/
def execPowerOn (cause : PowerOnCause) (level : Nat) (tubes : TubeLevels) (s : State) : Host.Outcome State Fault Refusal :=
  .next (s.evPowerOn cause level tubes)
/-- POWER_RECOVERY. -/
def execPowerRecovery (level : Nat) (tubes : TubeLevels) (s : State) : Host.Outcome State Fault Refusal :=
  .next (s.evPowerRecovery level tubes)
/-- POWER_FAIL. -/
def execPowerFail (s : State) : Host.Outcome State Fault Refusal := whileRunning State.evPowerFail s
/-- RESET_N_ASSERT. -/
def execResetNAssert (s : State) : Host.Outcome State Fault Refusal := .next s.evResetAssert
/-- RUNNING_REGION_SAVE_END. -/
def execRunningRegionSaveEnd (s : State) : Host.Outcome State Fault Refusal := .next s.evRunningSaved
/-- SETTINGS_SAVE_END. -/
def execSettingsSaveEnd (s : State) : Host.Outcome State Fault Refusal := .next s.evSettingsSaved

end Sys2Proof.Machine
end

