-- ==== Sys2Proof/Machine/SaleEvents.lean ====
section
/-! DEFINITION. The door (spec/11, R184), the approval deadline (spec/06, R117), the card idle timer (R121) and the supply monitor's
changes between good and low (spec/09, R163), with the meanings of their commands. -/

namespace Sys2Proof.Machine

/-! ## The door (R184) -/

/-- The door opens: DOOR(OPEN); the vend queue cancels its orders that are neither TEST nor TURNING (R87), a session payout
holds (R66), and it is activity (R144). -/
def State.doorOpens (s : State) : State :=
  let s1 : State := { s with doorOpen := true }
  let s2 := s1.broadcast (.door true)
  (((s2.cancelAll (fun o => decide (o.funding ≠ .test) && decide (o.state ≠ .turning)) .door).payoutDoorOpens).activity).settle

/-- The door closes: DOOR(CLOSED); service privilege is released (R183), a held payout claims again (R67), and it is
activity (R144). -/
def State.doorCloses (s : State) : State :=
  let s1 : State := { s with doorOpen := false }
  let s2 := s1.broadcast (.door false)
  ((s2.releasePrivilege.payoutDoorCloses).activity).settle

/-- DOOR_CHANGE: the level the input has held for 50 ms; a level the door already has is no change (R184). -/
def State.evDoor (isOpen : Bool) (s : State) : State :=
  if s.doorOpen = isOpen then s else if isOpen then s.doorOpens else s.doorCloses

/-! ## Card orders and sessions (R117, R119, R121) -/

/-- An id joins the lapsed-id list at the back; from a full list the oldest leaves first (R119). -/
def State.addLapsed (id : Nat) (l : Link) (s : State) : State :=
  { s with lapsed :=
      (if s.lapsed.length < Config.lapsedSize then s.lapsed else s.lapsed.drop 1) ++ [{ id := id, link := l }] }

/-- APPROVAL_DEADLINE of the order with this id while it is in WAIT_APPROVAL: cancelled APPROVAL_TIMEOUT, its id lapses (R117). -/
def State.evApprovalDeadline (id : Nat) (s : State) : State :=
  match s.queue.find? fun o => decide (o.id = id) && decide (o.state = .waitApproval) with
  | some o =>
    let s1 := (s.advanceOpt o.deadline).cancelOne .approvalTimeout o
    let s2 := match o.cardLink with
      | some l => s1.addLapsed o.id l
      | none => s1
    (s2.afterOrders none).settle
  | none => s

/-- CARD_IDLE_EXPIRY: the running idle timer reaches 0 and the session is closed EXPIRED (R121, R123). -/
def State.evCardIdle (s : State) : State :=
  match s.card with
  | some c =>
    match c.idleEnd with
    | some t => ((s.advance t).closeCard .expired).settle
    | none => s
  | none => s

/-! ## Supply (R163) -/

/-- A change of the supply state: the budget follows it, SUPPLY goes out ahead of what the grant pass causes (R162, R163). -/
def State.supplyChanges (x : SupplyState) (level : Nat) (s : State) : State :=
  let s1 : State := { s with supply := x }
  ((s1.broadcast (.supply level s1.budget (decide (x = .good)))).grantPass).settle

/-- SUPPLY_LOW: from SUPPLY_GOOD, at a level below 85 % and not below 70 % (R163). -/
def State.evSupplyLow (level : Nat) (s : State) : State :=
  if s.supply = .good ∧ 70 ≤ level ∧ level < 85 then s.supplyChanges .low level else s

/-- SUPPLY_GOOD: from SUPPLY_LOW, at a level above 90 % (R163). -/
def State.evSupplyGood (level : Nat) (s : State) : State :=
  if s.supply = .low ∧ 90 < level then s.supplyChanges .good level else s

/-! ## The commands -/

/-- DOOR_CHANGE. -/
def execDoorChange (isOpen : Bool) (s : State) : Host.Outcome State Fault Refusal := whileRunning (State.evDoor isOpen) s
/-- APPROVAL_DEADLINE. -/
def execApprovalDeadline (id : Nat) (s : State) : Host.Outcome State Fault Refusal :=
  whileRunning (State.evApprovalDeadline id) s
/-- CARD_IDLE_EXPIRY. -/
def execCardIdleExpiry (s : State) : Host.Outcome State Fault Refusal := whileRunning State.evCardIdle s
/-- SUPPLY_LOW. -/
def execSupplyLow (level : Nat) (s : State) : Host.Outcome State Fault Refusal := whileRunning (State.evSupplyLow level) s
/-- SUPPLY_GOOD. -/
def execSupplyGood (level : Nat) (s : State) : Host.Outcome State Fault Refusal := whileRunning (State.evSupplyGood level) s

end Sys2Proof.Machine
end

