-- ==== Sys2Proof/Machine/Dispatch.lean ====
section
/-! DEFINITION. One arm for each command: a direct call of its meaning. -/

namespace Sys2Proof.Machine

/-- The effect of a command on everything but the queue. -/
def exec (i : Instr) (s : State) : Host.Outcome State Fault Refusal :=
  match i with
  | .powerOn cause level tubes => Sys2Proof.Machine.execPowerOn cause level tubes s
  | .powerRecovery level tubes => Sys2Proof.Machine.execPowerRecovery level tubes s
  | .powerFail => Sys2Proof.Machine.execPowerFail s
  | .resetNAssert => Sys2Proof.Machine.execResetNAssert s
  | .runningRegionSaveEnd => Sys2Proof.Machine.execRunningRegionSaveEnd s
  | .supplyLow level => Sys2Proof.Machine.execSupplyLow level s
  | .supplyGood level => Sys2Proof.Machine.execSupplyGood level s
  | .linkByte l b stopOk => Sys2Proof.Machine.execLinkByte l b stopOk s
  | .gap l => Sys2Proof.Machine.execGap l s
  | .responseSent l => Sys2Proof.Machine.execResponseSent l s
  | .ident l => Sys2Proof.Machine.execIdent l s
  | .fetchNotices l => Sys2Proof.Machine.execFetchNotices l s
  | .linkStatus l => Sys2Proof.Machine.execLinkStatus l s
  | .clearLinkErrors l mask => Sys2Proof.Machine.execClearLinkErrors l mask s
  | .linkReset l => Sys2Proof.Machine.execLinkReset l s
  | .order l sel => Sys2Proof.Machine.execOrder l sel s
  | .cancelOrder l id => Sys2Proof.Machine.execCancelOrder l id s
  | .returnCredit l => Sys2Proof.Machine.execReturnCredit l s
  | .readCredit l => Sys2Proof.Machine.execReadCredit l s
  | .readSelection l sel => Sys2Proof.Machine.execReadSelection l sel s
  | .cardOpen l funds => Sys2Proof.Machine.execCardOpen l funds s
  | .cardApprove l id decision => Sys2Proof.Machine.execCardApprove l id decision s
  | .cardClose l => Sys2Proof.Machine.execCardClose l s
  | .remoteOrder l sel => Sys2Proof.Machine.execRemoteOrder l sel s
  | .readAudit l copy group => Sys2Proof.Machine.execReadAudit l copy group s
  | .readTubes l => Sys2Proof.Machine.execReadTubes l s
  | .readCooling l => Sys2Proof.Machine.execReadCooling l s
  | .clearInterim l => Sys2Proof.Machine.execClearInterim l s
  | .setPrice l sel price => Sys2Proof.Machine.execSetPrice l sel price s
  | .setSelection l a => Sys2Proof.Machine.execSetSelection l a s
  | .setCoinType l a => Sys2Proof.Machine.execSetCoinType l a s
  | .setTube l a => Sys2Proof.Machine.execSetTube l a s
  | .setCooling l a => Sys2Proof.Machine.execSetCooling l a s
  | .setBudget l a => Sys2Proof.Machine.execSetBudget l a s
  | .setLink l a => Sys2Proof.Machine.execSetLink l a s
  | .setSales l a => Sys2Proof.Machine.execSetSales l a s
  | .saveSettings l => Sys2Proof.Machine.execSaveSettings l s
  | .settingsSaveEnd => Sys2Proof.Machine.execSettingsSaveEnd s
  | .serviceEnter l => Sys2Proof.Machine.execServiceEnter l s
  | .serviceLeave l => Sys2Proof.Machine.execServiceLeave l s
  | .clearHold l sel kind => Sys2Proof.Machine.execClearHold l sel kind s
  | .safetyRelease l => Sys2Proof.Machine.execSafetyRelease l s
  | .protect l sel value => Sys2Proof.Machine.execProtect l sel value s
  | .testTurn l sel => Sys2Proof.Machine.execTestTurn l sel s
  | .tubeDispense l tube coins => Sys2Proof.Machine.execTubeDispense l tube coins s
  | .probeMotors l => Sys2Proof.Machine.execProbeMotors l s
  | .setTubeCount l tube count => Sys2Proof.Machine.execSetTubeCount l tube count s
  | .forceDefrost l => Sys2Proof.Machine.execForceDefrost l s
  | .setOutputs l value => Sys2Proof.Machine.execSetOutputs l value s
  | .softRestart l => Sys2Proof.Machine.execSoftRestart l s
  | .baselineMeasurement count amp => Sys2Proof.Machine.execBaselineMeasurement count amp s
  | .coinPassageStart amp => Sys2Proof.Machine.execCoinPassageStart amp s
  | .passageGateEnd count amp => Sys2Proof.Machine.execPassageGateEnd count amp s
  | .passed amp => Sys2Proof.Machine.execPassed s amp
  | .acceptGateClose => Sys2Proof.Machine.execAcceptGateClose s
  | .creditPulse => Sys2Proof.Machine.execCreditPulse s
  | .coinDeadline => Sys2Proof.Machine.execCoinDeadline s
  | .rejectPeriodEnd => Sys2Proof.Machine.execRejectPeriodEnd s
  | .lockoutEnd => Sys2Proof.Machine.execLockoutEnd s
  | .tubeSensorChange tube sensor covered => Sys2Proof.Machine.execTubeSensorChange tube sensor covered s
  | .planningEnd => Sys2Proof.Machine.execPlanningEnd s
  | .ejectPulseEnd => Sys2Proof.Machine.execEjectPulseEnd s
  | .exitWindowClose => Sys2Proof.Machine.execExitWindowClose s
  | .nextCoinStart => Sys2Proof.Machine.execNextCoinStart s
  | .exitPulse => Sys2Proof.Machine.execExitPulse s
  | .doorChange isOpen => Sys2Proof.Machine.execDoorChange isOpen s
  | .approvalDeadline id => Sys2Proof.Machine.execApprovalDeadline id s
  | .cardIdleExpiry => Sys2Proof.Machine.execCardIdleExpiry s
  | .openCheck current => Sys2Proof.Machine.execOpenCheck current s
  | .camLeavesHome pos => Sys2Proof.Machine.execCamLeavesHome pos s
  | .startLimit => Sys2Proof.Machine.execStartLimit s
  | .jamCurrent current => Sys2Proof.Machine.execJamCurrent current s
  | .turnLimit => Sys2Proof.Machine.execTurnLimit s
  | .camHomes pos => Sys2Proof.Machine.execCamHomes pos s
  | .brakeEnd => Sys2Proof.Machine.execBrakeEnd s
  | .dropWindowClose => Sys2Proof.Machine.execDropWindowClose s
  | .drop early => Sys2Proof.Machine.execDrop early s
  | .lateDropExpiry => Sys2Proof.Machine.execLateDropExpiry s
  | .dropFault => Sys2Proof.Machine.execDropFault s
  | .dropOk => Sys2Proof.Machine.execDropOk s
  | .probeStepEnd current => Sys2Proof.Machine.execProbeStepEnd current s
  | .zoneSample reading => Sys2Proof.Machine.execZoneSample reading s
  | .evapSample reading => Sys2Proof.Machine.execEvapSample reading s
  | .startDelayEnd => Sys2Proof.Machine.execStartDelayEnd s
  | .compressorResize => Sys2Proof.Machine.execCompressorResize s
  | .minOffEnd => Sys2Proof.Machine.execMinOffEnd s
  | .pullDown => Sys2Proof.Machine.execPullDown s
  | .defrostForced => Sys2Proof.Machine.execDefrostForced s
  | .defrostTimeEnd => Sys2Proof.Machine.execDefrostTimeEnd s
  | .drainEnd => Sys2Proof.Machine.execDrainEnd s
  | .fbOffEnd => Sys2Proof.Machine.execFbOffEnd s
  | .fbOnEnd => Sys2Proof.Machine.execFbOnEnd s
  | .setbackExpiry => Sys2Proof.Machine.execSetbackExpiry s
  | .compressorPromotion => Sys2Proof.Machine.execCompressorPromotion s

end Sys2Proof.Machine
end

