-- ==== Sys2Proof/Machine/Step.lean ====
section
/-! DEFINITION. One step of the part: the front command is taken; on an empty queue 1 ms passes. -/

namespace Sys2Proof.Machine

/-- The state with this queue of waiting commands. -/
def State.withPending (cs : List Instr) (s : State) : State := { s with pending := cs }

/-- A step takes the command at the front of the queue and runs it on the state with the queue's rest; on an empty queue the
clock ticks (log 2). -/
def step (s : State) : Host.Outcome State Fault Refusal :=
  match s.pending with
  | c :: cs => exec c (s.withPending cs)
  | [] => .next s.tick

/-- The command that a table word spells, put at the front of the queue; no word of the table spells one, so the state is
unchanged. -/
def State.withFetchWord (s : State) (nbits w : Nat) : State :=
  match decodeTableWord nbits w with
  | some c => s.withPending (c :: s.pending)
  | none => s

end Sys2Proof.Machine
end

