-- ==== Sys2Proof/Safety.lean ====
section
/-! DEFINITION. What counts as a safe run, in the terms the statements use: the premises under which a request is carried out, the
bounds and laws that every step keeps, and what a link sees of a frame. -/

namespace Sys2Proof.Machine

/-! ## Requests -/

/-- The command of a request on a link. -/
def commandOf (l : Link) : Request → Instr
  | .ident => .ident l
  | .fetchNotices => .fetchNotices l
  | .linkStatus => .linkStatus l
  | .clearLinkErrors m => .clearLinkErrors l m
  | .linkReset => .linkReset l
  | .order i => .order l i
  | .cancelOrder id => .cancelOrder l id
  | .returnCredit => .returnCredit l
  | .readCredit => .readCredit l
  | .readSelection i => .readSelection l i
  | .cardOpen f => .cardOpen l f
  | .cardApprove id d => .cardApprove l id d
  | .cardClose => .cardClose l
  | .remoteOrder i => .remoteOrder l i
  | .readAudit c g => .readAudit l c g
  | .readTubes => .readTubes l
  | .readCooling => .readCooling l
  | .clearInterim => .clearInterim l
  | .setPrice i p => .setPrice l i p
  | .setSelection a => .setSelection l a
  | .setCoinType a => .setCoinType l a
  | .setTube a => .setTube l a
  | .setCooling a => .setCooling l a
  | .setBudget a => .setBudget l a
  | .setLink a => .setLink l a
  | .setSales a => .setSales l a
  | .saveSettings => .saveSettings l
  | .serviceEnter => .serviceEnter l
  | .serviceLeave => .serviceLeave l
  | .clearHold i k => .clearHold l i k
  | .safetyRelease => .safetyRelease l
  | .protect i v => .protect l i v
  | .testTurn i => .testTurn l i
  | .tubeDispense t n => .tubeDispense l t n
  | .probeMotors => .probeMotors l
  | .setTubeCount t n => .setTubeCount l t n
  | .forceDefrost => .forceDefrost l
  | .setOutputs v => .setOutputs l v
  | .softRestart => .softRestart l

/-- The part runs and the link's backlog has room, so a complete request frame is taken (R171). -/
def State.Takes (s : State) (l : Link) : Prop := s.power = .running ∧ s.links[l].backlog.length < 2

/-- A request is taken and passes checks 1 to 4 of R173, so that its owner decides it. -/
def State.Admits (s : State) (l : Link) (r : Request) : Prop :=
  s.Takes l ∧ s.hasGroup l r = true ∧ (needsPrivilege r = true → s.holder = some l)

/-- A response of this kind and body joins the back of the link's backlog; everything else stays. -/
def State.answerOn (l : Link) (kind : Byte) (body : List Byte) (s : State) : State :=
  s.modPort l fun p => { p with backlog := p.backlog ++ [{ kind := kind, body := body }] }

/-- A list of commands, run one after another. -/
def runAll : List Instr → State → Host.Outcome State Fault Refusal
  | [], s => .next s
  | c :: cs, s =>
    match exec c s with
    | .next t => runAll cs t
    | .fault f => .fault f
    | .refused r => .refused r

/-! ## Laws that every step keeps -/

/-- The lists stay within the sizes the manual gives them, each owner has at most one claim, and a link holds service privilege
only while the door is open (R167, R178, R35, R82, R119, R156, R182, R183). -/
structure State.Bounded (s : State) : Prop where
  notices  : ∀ l : Link, s.links[l].notices.length ≤ 16
  backlog  : ∀ l : Link, s.links[l].backlog.length ≤ 2
  inFlight : s.coin.inFlight.length ≤ 2
  queue    : s.queue.length ≤ 4
  lapsed   : s.lapsed.length ≤ 4
  claims   : (s.claims.map (·.owner)).Nodup
  lock     : s.holder.isSome = true → s.doorOpen = true

/-- Every setting lies in the range its rule gives, an enabled coin type shares its tube's value, and no two enabled coin types
overlap (R8, R30, R31, R41, R45, R72, R96, R132, R165, R177). -/
structure Settings.InRange (c : Settings) : Prop where
  price   : ∀ i : Sel, c.sels[i].price ≤ 60000
  pairs   : ∀ i : Sel, c.sels[i].pair = true → c.sels[i].column.val < 9
  coins   : ∀ i : CoinTypeNo, c.coins[i].inRange = true
  tubes   : ∀ i : TubeNo, c.tubes[i].inRange = true
  cooling : (c.cooling.inRange && c.cooling.fits) = true
  budget  : (c.budget.inRange && c.budget.fits) = true
  service : hasService c.links = true
  sales   : c.sales.inRange = true
  shared  : ∀ (k : CoinTypeNo) (i : TubeNo), c.coins[k].enabled = true → c.coins[k].dest = some i →
    c.tubes[i].value = c.coins[k].value
  apart   : ∀ k u : CoinTypeNo, k ≠ u → c.coins[k].enabled = true → c.coins[u].enabled = true →
    c.coins[k].overlaps c.coins[u] = false

/-- The settings that a settings region was written with lie in their ranges. -/
def regionInRange : Region Settings → Prop
  | .written c _ => c.InRange
  | .torn => True

/-- The settings in force and every copy of them in the store lie in their ranges, and no tube's count is above its capacity
(R43). -/
structure State.SettingsHold (s : State) : Prop where
  force   : s.settings.InRange
  stored  : regionInRange s.store.settings
  saving  : ∀ c, s.store.saving = some c → c.InRange
  counts  : ∀ i : TubeNo, s.tubes[i].count ≤ s.settings.tubes[i].capacity

/-- The grants have been acted on: no head with a granted claim still waits to turn, and no session payout stands between two
coins with nothing left to eject (R159, R65). -/
def State.Quiet (s : State) : Prop :=
  (∀ o, s.queue.head? = some o → o.state = .waitGrant → s.isGranted .vend = false) ∧ s.payout.isEmpty = false

/-- The sum of the prices of the CASH orders in the queue (R1). -/
def cashPrices (q : List Order) : Nat := ((q.filter fun o => decide (o.funding = .cash)).map (·.price)).sum

/-- The sum of the prices of the CARD orders in the queue (R113, R116). -/
def cardPrices (q : List Order) : Nat := ((q.filter fun o => decide (o.funding = .card)).map (·.price)).sum

/-- The money laws of R1, R4, R10, R18, R21, R113 and R116: owed never exceeds the credit; reserved is the sum of the CASH orders'
prices and lies within the credit, and the card's reserved that of the CARD orders' within its funds; outside CASH no cash is held
or moving; an order's funding agrees with the session; a session payout runs only with an empty queue and no coin in flight, and a
coin is in its window only while the engine ejects. -/
structure State.MoneyHolds (s : State) : Prop where
  ids      : (s.queue.map (·.id)).Nodup
  reserved : s.credit.reserved = cashPrices s.queue
  covered  : s.credit.reserved ≤ s.credit.cash
  owed     : s.credit.owed ≤ s.credit.cash
  empty    : s.credit.session ≠ .cash →
    s.credit.cash = 0 ∧ s.coin.inFlight = [] ∧ s.credit.vended = false ∧ s.credit.returnPending = none ∧
      s.credit.payoutActive = false
  cash     : ∀ o ∈ s.queue, o.funding = .cash → s.credit.session = .cash
  card     : s.card.isSome = true ↔ (s.credit.session = .card ∨ s.credit.session = .cardClosing)
  cards    : ∀ o ∈ s.queue, o.funding = .card → s.card.isSome = true
  funds    : ∀ c, s.card = some c → c.reserved = cardPrices s.queue ∧ c.reserved ≤ c.funds
  remote   : s.credit.session = .remote → ∃ o, s.queue = [o] ∧ o.funding = .remote
  payout   : s.credit.payoutActive = true ↔ (s.payout.kind = some .session ∧ s.payout.state ≠ .done)
  alone    : s.credit.payoutActive = true → s.queue = [] ∧ s.coin.inFlight = []
  window   : s.payout.current.isSome = true → s.payout.state = .ejecting

/-- The audit balance of one set of lifetime counters and a cash credit, modulo 2^32 (R188). -/
def balanced (n : Counters) (cash : Nat) : Prop :=
  n[Counter.cashIn.code] + n[Counter.payoutSurplus.code] =
    n[Counter.cashSales.code] + n[Counter.paidOut.code] + BitVec.ofNat 32 cash

/-- What a running region saves balances, lies within the largest amount, and a saved hold has its cause (R188, R190, R155). -/
structure Running.Sound (r : Running) : Prop where
  balance : balanced r.lifetime r.cash
  amount  : r.cash ≤ 60000
  cause   : r.safety = .held → r.cause.isSome = true

/-- The amount that a list of denominations with counts is worth (R50). -/
def worth (ds : List (Nat × Nat)) : Nat := (ds.map fun d => d.1 * d.2).sum

/-- The audit balance of R188 holds, here and in every copy of the running region; what lets it hold while a session payout runs:
cash credit with the cash coins in flight is an amount, what was asked for is an amount, paid or still credit, the coins planned lie
within the credit, each denomination once, and a coin awaited in its window is one of them (R5, R50, R56, R60). -/
structure State.BooksHold (s : State) : Prop where
  balance  : balanced s.lifetime s.credit.cash
  amount   : s.credit.cash + ((s.coin.inFlight.filter fun c => !c.fill).map (·.value)).sum ≤ 60000
  stored   : ∀ r crc, s.store.running = .written r crc → r.Sound
  stopping : ∀ r, s.store.stopping = some r → r.Sound
  asked    : s.credit.payoutActive = true →
    s.payout.requested = s.credit.cash + s.payout.paid ∧ s.payout.requested ≤ 60000
  planned  : s.credit.payoutActive = true →
    (s.payout.remaining.map (·.1)).Nodup ∧ worth s.payout.remaining ≤ s.credit.cash
  answered : ∀ p, s.credit.payoutActive = true → s.payout.state = .planning → s.payout.answer = some p →
    (p.counts.map (·.1)).Nodup ∧ worth p.counts ≤ s.credit.cash
  awaited  : ∀ e, s.credit.payoutActive = true → s.payout.current = some e → e.seenAt = none →
    ∃ n, 0 < n ∧ (s.settings.tubes[e.tube].value, n) ∈ s.payout.remaining
  cause    : s.safety.state = .held → s.safety.cause.isSome = true

/-- The safety laws: a zone sensor in FAULT is never CLEAR, the cabinet is never run warm outside CLEAR, SAFETY is held in HELD by
exactly the perishable selections of CHILLED rows, and outside HELD by none, and a hold has its cause, here and in every copy of the
running region (R144, R148, R149, R152, R153, R155, R190). -/
structure State.SafetyHolds (s : State) : Prop where
  sensor : s.cooling.zone.fault = true → s.safety.state ≠ .clear
  mode   : s.safety.state ≠ .clear → s.cooling.mode = .normal
  held   : s.safety.state = .held → ∀ i : Sel, s.sels[i].holds.getLsbD 3 =
    (s.settings.sels[i].perishable && decide (s.settings.zones[rowOf i] = .chilled))
  free   : s.safety.state ≠ .held → ∀ i : Sel, s.sels[i].holds.getLsbD 3 = false
  cause  : s.safety.state = .held → s.safety.cause.isSome = true
  stored : ∀ r crc, s.store.running = .written r crc → r.safety = .held → r.cause.isSome = true
  saving : ∀ r, s.store.stopping = some r → r.safety = .held → r.cause.isSome = true

/-! ## Plans (R50, R51) -/

/-- A plan over denominations (value, availability) that is exact for `c`: one count for each denomination, within its
availability, with total `c` (R50). -/
def ExactPlan (ds : List (Nat × Nat)) (r : List Nat) (c : Nat) : Prop :=
  r.length = ds.length ∧ (∀ x ∈ r.zip ds, x.1 ≤ x.2.2) ∧ (List.zipWith (fun n d => n * d.1) r ds).sum = c

/-- The lexicographically greatest exact plan (R51). -/
def GreatestPlan (ds : List (Nat × Nat)) (r : List Nat) (c : Nat) : Prop :=
  ExactPlan ds r c ∧ ∀ r', ExactPlan ds r' c → ¬ List.Lex (· < ·) r r'

end Sys2Proof.Machine
end

