-- ==== Sys2Proof/Certificates/Slice0/Obligations.lean ====
section
/-! DEFINITION. The statements for the provers. Frames are written by overwriting: `{ t with f := s.f } = s` says that `t` and `s`
agree in everything but `f`. -/

open Sys2Proof Sys2Proof.Machine

/-! ## Steps, the queue and the clock -/

/-- A step takes the command at the front of the queue and runs it on the state with the queue's rest. -/
def Obligations.StepRunsFrontCommand : Prop :=
  ∀ (c : Instr) (cs : List Instr) (s : State), s.pending = c :: cs → step s = exec c (s.withPending cs)

/-- A step on an empty queue lets 1 ms pass while the part runs; a command with a time still ahead moves the clock to it. The
accumulated run time grows with the clock while the relay is closed, up to 1,500 min. The model's choice: log 2, log 3; the
bound is R132. -/
def Obligations.ClockTicksAndAdvances : Prop :=
  (∀ s : State, s.pending = [] →
     (s.power = .running → step s = .next
       { s with now := s.now + 1,
                cooling := { s.cooling with
                  accumulated := if s.cooling.runStart.isSome then min 90000000 (s.cooling.accumulated + 1)
                    else s.cooling.accumulated } }) ∧
     (s.power ≠ .running → step s = .next s)) ∧
  (∀ (t : Nat) (s : State),
     (t ≤ s.now → s.advance t = s) ∧
     (s.now < t → s.advance t = { s with now := t, cooling := { s.cooling with
       accumulated := if s.cooling.runStart.isSome then min 90000000 (s.cooling.accumulated + (t - s.now))
         else s.cooling.accumulated } }))

/-- Every command completes, leaves the queue of waiting commands alone, and, but for the four commands that start or stop the
part and for the end of a save behind which a release of RESET_N waits, never sets the clock back and leaves the level of RESET_N
and the waiting release alone. The clock is the model's (log 3); so is the waiting release (log 7). -/
def Obligations.EveryCommandCompletes : Prop :=
  ∀ (c : Instr) (s : State), ∃ t : State, exec c s = .next t ∧ t.pending = s.pending ∧
    ((∀ k lv tb, c ≠ .powerOn k lv tb) → (∀ lv tb, c ≠ .powerRecovery lv tb) → c ≠ .powerFail → c ≠ .resetNAssert →
      (c = .runningRegionSaveEnd → s.startAfter = none) →
      s.now ≤ t.now ∧ t.resetAsserted = s.resetAsserted ∧ t.startAfter = s.startAfter ∧
        (c ≠ .runningRegionSaveEnd → t.power = s.power))

/-- From the stop on the part takes no bytes, coins, samples or timers: only the commands of the supply, of RESET_N and of the
store's writes act while it does not run (R164, R192; log 5). -/
def Obligations.StoppedPartIgnoresCommands : Prop :=
  ∀ (c : Instr) (s : State), s.power ≠ .running →
    (∀ k lv tb, c ≠ .powerOn k lv tb) → (∀ lv tb, c ≠ .powerRecovery lv tb) → c ≠ .resetNAssert →
    c ≠ .runningRegionSaveEnd → c ≠ .settingsSaveEnd → exec c s = .next s

/-! ## Links: frames, receiver and acceptance (spec/10) -/

/-- Reading the kind and body of a request's frame gives the request back, with every field at every value; the body is no
longer than a frame can carry. -/
def Obligations.RequestFrameRoundTrip : Prop :=
  ∀ r : Request, Request.parse r.kind r.body = some r ∧ r.body.length ≤ 56 ∧
    r.frame.length = r.body.length + 5

/-- The bytes of a request's frame, received one after another on a link that awaits a sync byte, have exactly the effect of the
request's command. That a request's command stands for its whole frame is the model's choice (log 35). -/
def Obligations.FrameBytesActAsRequest : Prop :=
  ∀ (l : Link) (r : Request) (s : State), s.power = .running → s.links[l].rx = .awaitSync →
    runAll (r.frame.map fun b => .linkByte l b true) s = exec (commandOf l r) s

/-- The receiver before the last byte of a frame: each state keeps its byte and moves on, a wrong sync byte sets SYNC, a length
above 56 sets LENGTH and abandons the frame; a byte with its stop bit low is discarded, sets FRAMING and abandons the frame in
every state; GAP abandons a frame in progress; RESPONSE_SENT takes the front response from the backlog (R169, R170, R171; log
23). -/
def Obligations.ReceiverTakesBytesAndGaps : Prop :=
  (∀ (l : Link) (b : Byte) (s : State), s.power = .running →
     exec (.linkByte l b false) s =
         .next (s.modPort l fun p => { p with rx := .awaitSync, errors := p.errors ||| 0b000010 }) ∧
     (s.links[l].rx = .awaitSync → exec (.linkByte l b true) s = .next (s.modPort l fun p =>
       if b = 0xB5 then { p with rx := .kind } else { p with errors := p.errors ||| 0b000001 })) ∧
     (s.links[l].rx = .kind →
       exec (.linkByte l b true) s = .next (s.modPort l fun p => { p with rx := .length b })) ∧
     (∀ k, s.links[l].rx = .length k → exec (.linkByte l b true) s = .next (s.modPort l fun p =>
       if 56 < b.toNat then { p with rx := .awaitSync, errors := p.errors ||| 0b000100 }
       else if b = 0 then { p with rx := .crcLo k [] } else { p with rx := .body k b.toNat [] })) ∧
     (∀ k n got, s.links[l].rx = .body k n got → exec (.linkByte l b true) s = .next (s.modPort l fun p =>
       if got.length + 1 < n then { p with rx := .body k n (got ++ [b]) } else { p with rx := .crcLo k (got ++ [b]) })) ∧
     (∀ k body, s.links[l].rx = .crcLo k body →
       exec (.linkByte l b true) s = .next (s.modPort l fun p => { p with rx := .crcHi k body b }))) ∧
  (∀ (l : Link) (s : State), s.power = .running →
     (s.links[l].rx ≠ .awaitSync → exec (.gap l) s =
       .next (s.modPort l fun p => { p with rx := .awaitSync, errors := p.errors ||| 0b010000 })) ∧
     (s.links[l].rx = .awaitSync → exec (.gap l) s = .next s) ∧
     exec (.responseSent l) s = .next (s.modPort l fun p => { p with backlog := p.backlog.tail }))

/-- The last byte of a frame: a CRC that does not match sets CRC and abandons the frame; a frame that matches is judged by
backlog, kind and length, and its request acts as the request's command does (R169, R171, R173 checks 1 and 2). -/
def Obligations.LastByteJudgesFrame : Prop :=
  ∀ (l : Link) (hi lo k : Byte) (body : List Byte) (s : State), s.power = .running →
    s.links[l].rx = .crcHi k body lo →
    let waiting := s.modPort l fun p => { p with rx := .awaitSync }
    (hi ++ lo ≠ crc16 (k :: byte body.length :: body) → exec (.linkByte l hi true) s =
      .next (waiting.modPort l fun p => { p with errors := p.errors ||| 0b001000 })) ∧
    (hi ++ lo = crc16 (k :: byte body.length :: body) →
      (2 ≤ s.links[l].backlog.length → exec (.linkByte l hi true) s =
        .next (waiting.modPort l fun p => { p with errors := p.errors ||| 0b100000 })) ∧
      (s.links[l].backlog.length < 2 →
        (bodyLength k = none → exec (.linkByte l hi true) s = .next (waiting.answerOn l (k + 0x80) [0x10])) ∧
        (∀ n, bodyLength k = some n → body.length ≠ n →
          exec (.linkByte l hi true) s = .next (waiting.answerOn l (k + 0x80) [0x11])) ∧
        (∀ r, Request.parse k body = some r → exec (.linkByte l hi true) s = exec (commandOf l r) waiting)))

/-- A request on a link with 2 responses in its backlog sets BACKLOG and does nothing else; otherwise a link without the
request's group is answered ROLE, then a link without service privilege PRIVILEGE where the request needs it, and nothing else
changes (R171, R173). A request's group stands on the roles that the catalogue of 10.9 gives its kind, and its column P says
which requests need service privilege. -/
def Obligations.RequestsAreAdmitted : Prop :=
  (∀ (l : Link) (r : Request) (s : State), s.power = .running →
    (2 ≤ s.links[l].backlog.length → exec (commandOf l r) s =
      .next (s.modPort l fun p => { p with errors := p.errors ||| 0b100000 })) ∧
    (s.links[l].backlog.length < 2 → s.hasGroup l r = false →
      exec (commandOf l r) s = .next (s.answerOn l (r.kind + 0x80) [0x12])) ∧
    (s.links[l].backlog.length < 2 → s.hasGroup l r = true → needsPrivilege r = true → s.holder ≠ some l →
      exec (commandOf l r) s = .next (s.answerOn l (r.kind + 0x80) [0x13]))) ∧
  (∀ (l : Link) (r : Request) (s : State),
    let role (place : Nat) : Bool := s.settings.links[l].roles.getLsbD place
    let sell := role 0
    let card := role 1
    let remote := role 2
    let audit := role 3
    let config := role 4
    let service := role 5
    s.hasGroup l r = (match r with
      | .ident | .fetchNotices | .linkStatus | .clearLinkErrors _ | .linkReset => true
      | .order _ | .cancelOrder _ | .returnCredit | .readCredit => sell
      | .readSelection _ => sell || audit
      | .cardOpen _ | .cardApprove _ _ | .cardClose => card
      | .remoteOrder _ => remote
      | .readAudit _ _ | .readTubes | .readCooling | .clearInterim => audit
      | .setPrice _ _ | .setSelection _ | .setCoinType _ | .setTube _ | .setCooling _ | .setBudget _ | .setLink _
      | .setSales _ | .saveSettings => config
      | .serviceEnter | .serviceLeave | .clearHold _ _ | .safetyRelease | .protect _ _ | .testTurn _ | .tubeDispense _ _
      | .probeMotors | .setTubeCount _ _ | .forceDefrost | .setOutputs _ | .softRestart => service)) ∧
  (∀ r : Request, needsPrivilege r = (match r with
    | .setSelection _ | .setCoinType _ | .setTube _ | .setCooling _ | .setBudget _ | .setLink _ | .setSales _
    | .saveSettings | .serviceLeave | .clearHold _ _ | .safetyRelease | .protect _ _ | .testTurn _ | .tubeDispense _ _
    | .probeMotors | .setTubeCount _ _ | .forceDefrost | .setOutputs _ | .softRestart => true
    | .ident | .fetchNotices | .linkStatus | .clearLinkErrors _ | .linkReset | .order _ | .cancelOrder _ | .returnCredit
    | .readCredit | .readSelection _ | .cardOpen _ | .cardApprove _ _ | .cardClose | .remoteOrder _ | .readAudit _ _
    | .readTubes | .readCooling | .clearInterim | .setPrice _ _ | .serviceEnter => false))

/-- A notice delivered to a queue joins its back, or is discarded with overflow set where 16 are queued. Raised for distinct
addressees it reaches each of them once, whatever its mask; a mirroring link outside them whose mask includes the kind gets one
copy with the first addressee as its source; every other link, and everything but the link records, is unchanged. A broadcast
reaches exactly the links whose mask includes its kind. ATNn follows queue, flags and enables (R172, R178, R179, R180). A notice
entry is the seven bytes that 10.9 lays out, its codes counted in the order listed there. A hold kind added or removed is reported
by SELECTION_HOLD with the selection, its new hold set and the kind; one that is already as asked changes nothing (R74). -/
def Obligations.NoticesReachQueues : Prop :=
  (∀ (n : Notice) (l : Link) (s : State),
     s.push n l = s.modPort l fun p =>
       if p.notices.length < 16 then { p with notices := p.notices ++ [n] } else { p with overflow := true }) ∧
  (∀ (b : NoticeBody) (first : Link) (rest : List Link) (s : State), (first :: rest).Nodup →
     let t := s.deliver b (first :: rest)
     { t with links := s.links } = s ∧
     ∀ l : Link, t.links[l] =
       if l ∈ first :: rest then (s.push ⟨b, none⟩ l).links[l]
       else if s.settings.links[l].mirror = true ∧ s.settings.links[l].mask.getLsbD b.kind = true then
         (s.push ⟨b, some first⟩ l).links[l]
       else s.links[l]) ∧
  (∀ (b : NoticeBody) (s : State),
     { s.broadcast b with links := s.links } = s ∧
     ∀ l : Link, (s.broadcast b).links[l] =
       if s.settings.links[l].mask.getLsbD b.kind = true then (s.push ⟨b, none⟩ l).links[l] else s.links[l]) ∧
  (∀ (l : Link) (s : State), s.atn l = true ↔ s.power = .running ∧
     ((s.links[l].notices ≠ [] ∧ s.settings.links[l].attnNotices = true) ∨
      (s.links[l].errors ≠ 0 ∧ s.settings.links[l].attnErrors = true))) ∧
  (∀ n : Notice,
     let signed (t : Int) : List Byte := le16 (t % 65536).toNat
     let source : Byte := match n.source with
       | some l => byte l.val
       | none => 0xFF
     let codes : Nat × Nat × List Byte × Nat := match n.body with
       | .credit x cash r =>
         (0, [Session.idle, .cash, .card, .cardClosing, .remote].idxOf x, le16 cash,
           [CreditReason.coin, .sale, .payout, .session].idxOf r)
       | .coin route value fill =>
         (1, (match route with | some i => i.val | none => 5), le16 value, if fill then 1 else 0)
       | .coinReject type value r =>
         (2, (match type with | some k => k.val | none => 0xFFFF), le16 value,
           [RejectReason.lockout, .noMatch, .door, .session, .limit, .busy, .unexpected, .lost].idxOf r)
       | .exactChange value set => (3, 0xFFFF, le16 value, if set then 0 else 1)
       | .selectionHold i h k =>
         (4, i.val, le16 h.toNat, [HoldKind.disabled, .soldOut, .jammed, .safety, .noMotor].idxOf k)
       | .cooling (.sensorFault x reading) => (5, [SensorName.zone, .evap].idxOf x, le16 reading, 0)
       | .cooling (.sensorOk x t) => (5, [SensorName.zone, .evap].idxOf x, signed t, 1)
       | .cooling (.pullDown t) => (5, 0, (match t with | some t => signed t | none => [0x00, 0x80]), 2)
       | .cooling (.defrostStart k t) => (5, [DefrostType.heater, .offCycle].idxOf k, signed t, 3)
       | .cooling (.defrostEnd c t) => (5, [DefrostCause.temp, .time].idxOf c, signed t, 4)
       | .cooling (.setback t) => (5, 0xFFFF, signed t, 5)
       | .cooling (.normal t) => (5, 0xFFFF, signed t, 6)
       | .cooling (.disabled t) => (5, 0xFFFF, signed t, 7)
       | .cooling (.enabled t) => (5, 0xFFFF, signed t, 8)
       | .safety cause t r =>
         (6, (match cause with
           | some c => [SafetyCause.temp, .sensor, .powerUp, .coolingOff].idxOf c
           | none => 0xFFFF), signed t, [SafetyReason.timing, .clear, .held, .released].idxOf r)
       | .door isOpen => (7, 0xFFFF, [0, 0], if isOpen then 0 else 1)
       | .service l taken => (8, l.val, [0, 0], if taken then 0 else 1)
       | .supply level budget good => (9, level, le16 budget, if good then 0 else 1)
       | .system r value =>
         (10, 0xFFFF, le16 value,
           [SystemReason.powerUp, .restart, .settingsLost, .settingsSaved, .dropFault, .dropOk, .probeDone].idxOf r)
       | .orderState id i st =>
         (11, id, le16 i.val,
           [OrderState.waitApproval, .ready, .waitGrant, .turning, .done, .failed, .cancelled].idxOf st)
       | .vendResult id price r =>
         (12, id, le16 price,
           [EndReason.done, .noDrop, .jam, .noStart, .noMotor, .held, .denied, .approvalTimeout, .cancelled, .safety, .door,
             .restart, .cardClosed].idxOf r)
       | .payout subject value r =>
         (13, subject, le16 value, [PayoutReason.done, .restart, .dry, .ended, .surplus].idxOf r)
       | .approvalNeeded id price => (14, id, le16 price, 0)
       | .cardEnd l funds r => (15, l.val, le16 funds, [CloseReason.closed, .expired, .linkReset, .restart].idxOf r)
       | .lateDrop id price f => (16, id, le16 price, [Funding.cash, .card, .remote, .test].idxOf f)
     n.body.kind = codes.1 ∧
       n.entry = [byte codes.1] ++ le16 codes.2.1 ++ codes.2.2.1 ++ [byte codes.2.2.2, source]) ∧
  (∀ (i : Sel) (k : HoldKind) (s : State),
     let place := [HoldKind.disabled, .soldOut, .jammed, .safety, .noMotor].idxOf k
     let one : HoldSet := 1#5 <<< place
     let reported (h : HoldSet) : State := State.broadcast (.selectionHold i h k)
       { s with sels := s.sels.set i { s.sels[i] with holds := h } }
     s.addHold i k = (if s.sels[i].holds.getLsbD place then s else reported (s.sels[i].holds ||| one)) ∧
     s.removeHold i k = (if s.sels[i].holds.getLsbD place then reported (s.sels[i].holds &&& ~~~ one) else s))

/-- IDENT and LINK_STATUS report what R174 names and change nothing but the backlog. CLEAR_LINK_ERRORS clears exactly the flags
its mask names, and is BAD_ARG for a position above BACKLOG (R175). FETCH_NOTICES removes up to 4 notices from the front and
gives them with the overflow flag as it stood and the number still queued; the flag is then clear (R180). -/
def Obligations.LinkRequestsReportAndClear : Prop :=
  (∀ (l : Link) (s : State), s.Takes l →
     exec (.ident l) s = .next (s.answerOn l 0x81 [0x00, 0x40, 0x3C, 0x01, byte l.val]) ∧
     exec (.linkStatus l) s = .next (s.answerOn l 0x83
       ([0x00, byte l.val, s.links[l].errors.setWidth 8, byte (bit s.links[l].overflow),
         byte s.links[l].notices.length, byte s.links[l].backlog.length,
         byte (bits [s.atn l, decide (s.holder = some l)]),
         s.settings.links[l].roles.setWidth 8, s.settings.links[l].domains.setWidth 8] ++
         le24 s.settings.links[l].mask.toNat ++
         [byte (bit s.settings.links[l].mirror),
          byte (bits [s.settings.links[l].attnNotices, s.settings.links[l].attnErrors])]))) ∧
  (∀ (l : Link) (mask : Byte) (s : State), s.Takes l →
     (mask.toNat < 64 → exec (.clearLinkErrors l mask) s = .next
       ((s.modPort l fun p => { p with errors := p.errors &&& ~~~ mask.setWidth 6 }).answerOn l 0x84
         [0x00, (s.links[l].errors &&& ~~~ mask.setWidth 6).setWidth 8])) ∧
     (64 ≤ mask.toNat → exec (.clearLinkErrors l mask) s = .next (s.answerOn l 0x84 [0x11]))) ∧
  (∀ (l : Link) (s : State), s.Takes l →
     exec (.fetchNotices l) s = .next
       ((s.modPort l fun p => { p with notices := p.notices.drop 4, overflow := false }).answerOn l 0x82
         ([0x00, byte (min 4 s.links[l].notices.length), byte (bit s.links[l].overflow),
           byte (s.links[l].notices.length - 4)] ++ (s.links[l].notices.take 4).flatMap Notice.entry)))

/-- LINK_RESET on a link that neither holds service privilege nor is the card link of a CARD session: the responses behind the
one being sent go, its own answer joins, queue, flags and receive state are cleared, nothing else changes. On any link the
receive state, the flags and the backlog end so, the link holds no privilege and no CARD session of its own, and the settings,
the store and the cash credit stay (R176). On the link that holds privilege it is released after that: SERVICE goes out, the TEST
orders not TURNING are cancelled, and a dispense ends or waits for its window. On the card link of a CARD session the session is
then closed: the CARD orders in WAIT_APPROVAL or READY are cancelled, and it ends with CARD_END(LINK_RESET), or is CARD_CLOSING for
that reason while one is in WAIT_GRANT or TURNING (R125, R183, R87, R69, R123, R124). The front response counts as being sent: log
23; settling: log 13. -/
def Obligations.LinkResetClearsOwnLink : Prop :=
  (∀ (l : Link) (s : State), s.Takes l → s.Quiet →
    let cleared := s.modPort l fun p =>
      { p with rx := .awaitSync, errors := 0, notices := [], overflow := false,
               backlog := p.backlog.take 1 ++ [{ kind := 0x85, body := [0x00] }] }
    (s.holder ≠ some l → (∀ c, s.card = some c → c.link = l → s.credit.session ≠ .card) →
      exec (.linkReset l) s = .next cleared) ∧
    (∃ t : State, exec (.linkReset l) s = .next t ∧ t.links[l].rx = .awaitSync ∧ t.links[l].errors = 0 ∧
      t.links[l].backlog = s.links[l].backlog.take 1 ++ [{ kind := 0x85, body := [0x00] }] ∧
      t.holder ≠ some l ∧ (∀ c, t.card = some c → c.link = l → t.credit.session ≠ .card) ∧
      t.settings = s.settings ∧ t.store = s.store ∧ t.credit.cash = s.credit.cash)) ∧
  ∀ (l : Link) (s : State), s.Takes l → (s.queue.map (·.id)).Nodup →
    let emptied := s.modPort l fun p =>
      { p with rx := .awaitSync, errors := 0, notices := [], overflow := false, backlog := p.backlog.take 1 }
    let ended (x : State) (o : Order) : State :=
      (if o.state = .waitGrant then x.removeClaim .vend else x).endOrder o .cancelled .cancelled
    let told := State.broadcast (.service l false) { emptied with holder := none }
    let tests := s.queue.filter fun o => decide (o.funding = .test ∧ o.state ≠ .turning)
    let tested : State :=
      if tests = [] then told else ((tests.foldl ended told).orderLeft none).claimHead
    let released : State :=
      let p := tested.payout
      if p.kind ≠ some .dispense then tested
      else if p.state = .waitGrant ∨ (p.state = .ejecting ∧ p.current = none) then
        State.deliver (.payout ((p.tube.map (·.val)).getD 0) p.paid .ended) [p.origin]
          (State.removeClaim .payout { tested with payout := { p with
            state := .done, nextAt := none, answer := none, current := none, holdPending := false, restartPending := false,
            releasePending := false } })
      else if p.state = .ejecting then { tested with payout := { p with releasePending := true } }
      else tested
    let u : State := if s.holder = some l then released else emptied
    let waits (o : Order) : Bool := decide (o.funding = .card ∧ (o.state = .waitApproval ∨ o.state = .ready))
    let gone := (u.queue.filter waits).foldl (fun x o => x.endOrder o .cancelled .cardClosed) u
    ((∀ c, u.card = some c → c.link = l → u.credit.session ≠ .card) →
      exec (.linkReset l) s = .next (u.settle.answerOn l 0x85 [0x00])) ∧
    ∀ c, u.card = some c → c.link = l → u.credit.session = .card →
      ((∀ o ∈ u.queue, o.funding = .card → waits o = true) →
        exec (.linkReset l) s = .next
          ((State.broadcast (.credit .idle u.credit.cash .session)
            { State.deliver (.cardEnd l c.funds .linkReset) [l] gone with
              card := none, credit := { u.credit with session := .idle } }).claimHead.settle.answerOn l 0x85 [0x00])) ∧
      ((∃ o ∈ u.queue, o.funding = .card ∧ waits o = false) →
        exec (.linkReset l) s = .next
          ((State.broadcast (.credit .cardClosing u.credit.cash .session)
            { gone with
              card := some { c with reserved := c.reserved - ((u.queue.filter waits).map (·.price)).sum, idleEnd := none,
                                    closing := some .linkReset },
              credit := { u.credit with session := .cardClosing } }).claimHead.settle.answerOn l 0x85 [0x00]))

/-- SET_LINK: BAD_ARG for a link above 2, a member outside its set, or a mirror neither 0 nor 1; CONFLICT where no link would
keep the SERVICE role; otherwise the named link's settings are replaced whole and nothing else changes (R177). -/
def Obligations.SetLinkReplacesSettings : Prop :=
  ∀ (l : Link) (a : LinkArgs) (s : State), s.Admits l (.setLink a) →
    (¬ (a.link.toNat ≤ 2 ∧ a.roles.toNat < 64 ∧ a.domains.toNat < 16 ∧ a.mask.toNat < 2 ^ 17 ∧ a.mirror.toNat ≤ 1 ∧
        a.enables.toNat < 4) → exec (.setLink l a) s = .next (s.answerOn l 0xC6 [0x11])) ∧
    ∀ n : Link, a.link.toNat = n.val → a.roles.toNat < 64 → a.domains.toNat < 16 → a.mask.toNat < 2 ^ 17 →
      a.mirror.toNat ≤ 1 → a.enables.toNat < 4 →
      let k : LinkSettings :=
        { roles := a.roles.setWidth 6, domains := a.domains.setWidth 4, mask := a.mask.setWidth 17,
          mirror := a.mirror.getLsbD 0, attnNotices := a.enables.getLsbD 0, attnErrors := a.enables.getLsbD 1 }
      let ks := s.settings.links.set n k
      (if ∃ m : Link, ks[m].roles.getLsbD 5 = true then
        exec (.setLink l a) s = .next ({ s with settings := { s.settings with links := ks } }.answerOn l 0xC6 [0x00])
      else exec (.setLink l a) s = .next (s.answerOn l 0xC6 [0x2D]))

/-! ## Credit and sessions (spec/01) -/

/-- READ_CREDIT reports the credit record as it stands, with the card's funds while a card session record is open, which
MoneyHolds ties to CARD and CARD_CLOSING (R24, R113); READ_SELECTION reports the entry, BAD_ARG above 79 (R79). Neither changes
anything but the backlog. -/
def Obligations.ReadCreditAndSelectionReport : Prop :=
  (∀ (l : Link) (s : State), s.Admits l .readCredit →
     (s.card.isSome = true ↔ (s.credit.session = .card ∨ s.credit.session = .cardClosing)) →
     exec (.readCredit l) s = .next (s.answerOn l 0x93
       ([0x00, byte s.credit.session.code] ++ le16 s.credit.cash ++ le16 s.credit.reserved ++
         le16 (s.credit.cash - s.credit.reserved) ++
         [byte s.coin.inFlight.length] ++ le16 (s.coin.inFlight.map (·.value)).sum ++
         [byte (bits [s.credit.vended, s.credit.returnPending.isSome, s.credit.payoutActive, s.settings.sales.forceVend,
           s.settings.sales.multiVend])] ++
         le16 s.credit.owed ++ le16 s.settings.sales.creditLimit ++
         (match s.card with
          | some c => le16 c.funds ++ le16 (c.funds - c.reserved)
          | none => [0, 0, 0, 0])))) ∧
  (∀ (l : Link) (sel : Byte) (s : State), s.Admits l (.readSelection sel) →
     (80 ≤ sel.toNat → exec (.readSelection l sel) s = .next (s.answerOn l 0x94 [0x11])) ∧
     ∀ i : Sel, sel.toNat = i.val →
       let e := s.settings.sels[i]
       let r := s.sels[i]
       exec (.readSelection l sel) s = .next (s.answerOn l 0x94
         ([0x00, sel] ++ le16 e.price ++
           [byte e.column.val, byte (bit e.pair), byte e.domain.val, byte (s.settings.zones[rowOf i]).code,
            byte (bits [e.perishable, e.protect]), (match r.stock with | some n => byte n | none => 0xFF),
            byte r.noDropRun] ++
           le16 r.saleCount.toNat ++
           [r.holds.setWidth 8, byte (s.queue.filter fun o => decide (o.sel = i)).length])))

/-- The payout start test and then the idle test, with the CREDIT notice of a changed session: a pending return with an empty
queue, no coin in flight and no payout active starts a session payout of the whole credit in PLANNING, or is cleared at credit
0; a CASH session that nothing holds becomes IDLE (R18, R3, R57). RETURN takes its five steps: STATE outside CASH, BUSY while a
payout is active, ACCEPTED without a change while a return is pending, FORCE_VEND where that test refuses; otherwise return
pending is set for this link and the tests follow (R15, R16). The planner's answer stands in the record: log 33. -/
def Obligations.ReturnAndItsTests : Prop :=
  (∀ s : State,
     let free : Bool := decide (s.credit.session = .cash) && s.queue.isEmpty && s.coin.inFlight.isEmpty &&
       !s.credit.payoutActive
     (∀ l, s.credit.returnPending = some l → free = true → 0 < s.credit.cash → s.creditTests =
       { s with credit := { s.credit with returnPending := none, payoutActive := true },
                payout := { initPayout with
                  kind := some .session, origin := l, requested := s.credit.cash, state := .planning,
                  last := s.payout.last, answer := some (s.planFor s.credit.cash) } }) ∧
     (free = true → s.credit.cash = 0 → s.creditTests =
       State.broadcast (.credit .idle 0 .session)
         { s with credit := { s.credit with session := .idle, returnPending := none, vended := false, owed := 0 } }) ∧
     (free = false ∨ (s.credit.returnPending = none ∧ 0 < s.credit.cash) → s.creditTests = s)) ∧
  (∀ (l : Link) (s : State), s.Admits l .returnCredit →
     let refuses : Prop := s.settings.sales.forceVend = true ∧ s.credit.vended = false ∧ s.exactChange = false ∧
       ∃ i : Sel, s.settings.sels[i].price ≤ s.credit.cash ∧ s.sels[i].holds = 0
     (s.credit.session ≠ .cash → exec (.returnCredit l) s = .next (s.answerOn l 0x92 [0x20])) ∧
     (s.credit.session = .cash → s.credit.payoutActive = true →
       exec (.returnCredit l) s = .next (s.answerOn l 0x92 [0x28])) ∧
     (s.credit.session = .cash → s.credit.payoutActive = false → s.credit.returnPending.isSome = true →
       exec (.returnCredit l) s = .next (s.answerOn l 0x92 [0x01])) ∧
     (s.credit.session = .cash → s.credit.payoutActive = false → s.credit.returnPending = none →
       (refuses → exec (.returnCredit l) s = .next (s.answerOn l 0x92 [0x2C])) ∧
       (¬ refuses → exec (.returnCredit l) s = .next
         (({ s with credit := { s.credit with returnPending := some l } } : State).creditTests.answerOn l 0x92 [0x01]))))

/-- SET_SALES: BAD_ARG where a value lies outside its range; otherwise the sales settings are replaced whole, a changed horizon
has the exact-change flag evaluated, and nothing else changes (R8, R54, R96). -/
def Obligations.SetSalesReplacesSettings : Prop :=
  ∀ (l : Link) (a : SalesArgs) (s : State), s.Admits l (.setSales a) →
    let fits (p : ProfileArgs) : Prop :=
      p.ramp.toNat ≤ 500 ∧ 50 ≤ p.duty.toNat ∧ p.duty.toNat ≤ 100 ∧ p.extra.toNat ≤ 2
    let good : Prop := a.creditLimit.toNat ≤ 60000 ∧ a.horizon.toNat ≤ 60000 ∧ a.forceVend.toNat ≤ 1 ∧
      a.multiVend.toNat ≤ 1 ∧ 1 ≤ a.rejectThreshold.toNat ∧ a.rejectThreshold.toNat ≤ 31 ∧ 10 ≤ a.cardIdle.toNat ∧
      fits a.ambient ∧ fits a.chilled
    let profile (p : ProfileArgs) : Profile :=
      { ramp := p.ramp.toNat, duty := p.duty.toNat, extra := p.extra.toNat }
    let sales : SalesSettings :=
      { creditLimit := a.creditLimit.toNat, horizon := a.horizon.toNat, forceVend := decide (a.forceVend = 1),
        multiVend := decide (a.multiVend = 1), rejectThreshold := a.rejectThreshold.toNat,
        cardIdle := a.cardIdle.toNat, ambient := profile a.ambient, chilled := profile a.chilled }
    let t : State := { s with settings := { s.settings with sales := sales } }
    (¬ good → exec (.setSales l a) s = .next (s.answerOn l 0xC7 [0x11])) ∧
    (good → exec (.setSales l a) s = .next
      ((if a.horizon.toNat = s.settings.sales.horizon then t else t.evalExact).answerOn l 0xC7 [0x00]))

/-- The money laws, which tie the credit record to the vend queue, the card record and the payout, hold of every state that a
step reaches from a state in which they hold; and where the settings are in range besides, the audit balance of R188 is kept,
here and in every copy of the running region: cash taken in and surplus paid out are the sales, the money paid out and the cash
credit together. -/
def Obligations.EveryStepKeepsMoneyLaws : Prop :=
  ∀ s t : State, s.Bounded → s.MoneyHolds → step s = .next t →
    t.MoneyHolds ∧ (s.SettingsHold → s.BooksHold → t.BooksHold)

/-! ## Coins and tubes (spec/02) -/

/-- A measurement is that of the 1 s mark due next, its gate over 2 ms after the mark; with no coin present, none begun in its gate
and the amplitude above the presence threshold it replaces the baseline, and otherwise it is discarded; the next is due at the next
mark. A fall below the presence threshold begins a passage, spoils a measurement whose gate runs, and is activity: the setback timer
starts again, and SETBACK gives way to NORMAL with its notice and the LIGHTING claim. Its gates take 2 ms each, one after the other from its
start, and each keeps the lowest count and the lowest amplitude. The accept gate's open period, the reject period and the lockout end at their times. Nothing else changes (R28, R29, R34, R40,
R144; operands: log 17; times: log 3; marks: log 43). -/
def Obligations.CoinFrontEndMeasuresAndTimes : Prop :=
  (∀ (count : BitVec 16) (amp : BitVec 12) (s : State), s.power = .running →
     (let u := s.advance (s.coin.nextMark + 2)
      let kept : Prop := s.coin.passage = none ∧ s.coin.gateSpoiled = false ∧ 3072 < amp.toNat
      let measured (b : Option Baseline) : State := { u with coin := { s.coin with
        baseline := b, nextMark := (u.now / 1000 + 1) * 1000, gateSpoiled := false } }
      (kept → exec (.baselineMeasurement count amp) s = .next (measured (some { count := count, amp := amp }))) ∧
      (¬ kept → exec (.baselineMeasurement count amp) s = .next (measured s.coin.baseline))) ∧
     (s.coin.passage = none → amp.toNat < 3072 → s.Quiet →
       let begun : CoinFront := { s.coin with
         passage := some { lowCount := none, lowAmp := amp, gateEnd := s.now + 2 }, gateSpoiled := decide (s.coin.nextMark ≤ s.now) }
       let timer := some (s.now + s.settings.cooling.setbackDelay * 60000)
       (s.cooling.mode = .normal → exec (.coinPassageStart amp) s =
         .next { s with coin := begun, cooling := { s.cooling with setbackEnd := timer } }) ∧
       (s.cooling.mode = .setback → (∀ c ∈ s.claims, c.granted = true ∧ c.owner ≠ .lighting) →
         let base := s.settings.cooling.base
         let size := s.settings.budget.lighting
         let u := State.broadcast (.cooling (.normal base)) { s with
           coin := begun, cooling := { s.cooling with setbackEnd := timer, mode := .normal, effective := base } }
         let claim : Claim := { owner := .lighting, size := size, promoted := false,
                                granted := decide (grantedTotal s.claims + size ≤ s.budget), placedAt := s.now }
         exec (.coinPassageStart amp) s = .next { u with claims := s.claims ++ [claim] })) ∧
     (∀ p, s.coin.passage = some p →
       let low : BitVec 16 := match p.lowCount with
         | some c => if count.toNat < c.toNat then count else c
         | none => count
       let q : Passage :=
         { lowCount := some low, lowAmp := if amp.toNat < p.lowAmp.toNat then amp else p.lowAmp, gateEnd := p.gateEnd + 2 }
       exec (.passageGateEnd count amp) s = .next
         { s.advance p.gateEnd with coin := { s.coin with passage := some q } })) ∧
  (∀ s : State, s.power = .running →
     (∀ e, s.coin.gateEnd = some e → exec .acceptGateClose s =
       .next { s.advance e with coin := { s.coin with gateEnd := none, divert := false } }) ∧
     exec .rejectPeriodEnd s = .next { s.advance s.coin.periodEnd with
       coin := { s.coin with rejectCount := 0, periodEnd := s.coin.periodEnd + 60000 } } ∧
     (∀ e, s.coin.lockoutEnd = some e → exec .lockoutEnd s =
       .next { s.advance e with coin := { s.coin with lockoutEnd := none } }))

/-- The two figures of a coin and the type it matches: F is the fall of the count clamped to 0…4,095, A a sixteenth of the fall
of the amplitude clamped to 0…255; the type matched is enabled and both figures lie in its windows; with none matched no enabled
type's windows hold both; without a baseline none matches (R29, R30). -/
def Obligations.CoinMatchesByWindows : Prop :=
  ∀ (s : State) (p : Passage),
    (s.coin.baseline = none → s.passedType p = none) ∧
    ∀ b c, s.coin.baseline = some b → p.lowCount = some c →
      let f := min 4095 (b.count.toNat - c.toNat)
      let a := min 255 ((b.amp.toNat - p.lowAmp.toNat) / 16)
      let takes (k : CoinTypeNo) : Prop := s.settings.coins[k].enabled = true ∧
        s.settings.coins[k].fMin ≤ f ∧ f ≤ s.settings.coins[k].fMax ∧
        s.settings.coins[k].aMin ≤ a ∧ a ≤ s.settings.coins[k].aMax
      (∀ k, s.passedType p = some k → takes k) ∧ (s.passedType p = none → ∀ k, ¬ takes k)

/-- PASSED puts the coin to the tests of R32 in order and rejects it at the first that fails, closing the gate, or accepts it: the
in-flight entry with its route of R42, the gate for 150 ms, the diverter, and CASH from IDLE (R32, R33, R34, R5, R40, R42). The lowest
amplitude of the gate that the passage did not complete counts too, and PASSED carries it (R29; log 17). A 1 s mark that fell inside the passage is skipped (R28; log
43). The free counter moves where F is a free value (log 8). -/
def Obligations.PassedJudgesCoin : Prop :=
  ∀ (s : State) (q : Passage) (amp : BitVec 12), s.power = .running → s.coin.passage = some q →
    let p : Passage := { q with lowAmp := if amp.toNat < q.lowAmp.toNat then amp else q.lowAmp }
    let waits : Bool :=
      decide (s.now < s.coin.nextMark) || (s.coin.gateSpoiled && decide (s.now < s.coin.nextMark + 2))
    let u : State := { s with
      coin := { s.coin with
        passage := none, nextMark := if waits then s.coin.nextMark else (s.now / 1000 + 1) * 1000,
        gateSpoiled := waits && s.coin.gateSpoiled },
      free := if s.coin.baseline.isSome && p.lowCount.isNone then s.free + 1 else s.free }
    let rejected (t : Option CoinTypeNo) (v : Nat) (r : RejectReason) : State :=
      ({ u with coin := { u.coin with gateEnd := none, divert := false } } : State).broadcast (.coinReject t v r)
    (s.coin.lockoutEnd.isSome = true → exec (.passed amp) s = .next (rejected none 0 .lockout)) ∧
    (s.coin.lockoutEnd = none → s.passedType p = none → exec (.passed amp) s = .next
      (let t := rejected none 0 .noMatch
       if s.coin.rejectCount + 1 < s.settings.sales.rejectThreshold then
         { t with coin := { t.coin with rejectCount := s.coin.rejectCount + 1 } }
       else ({ t with coin := { t.coin with rejectCount := 0, lockoutEnd := some (s.now + 120000) } } : State).broadcast
         (.coinReject none 120 .lockout))) ∧
    (∀ k, s.coin.lockoutEnd = none → s.passedType p = some k →
      let v := s.settings.coins[k].value
      let fill : Bool := s.doorOpen && s.holder.isSome
      let route : Option TubeNo :=
        match s.settings.coins[k].dest with
        | some i =>
          if s.settings.tubes[i].enabled = true ∧ s.tubes[i].full = false ∧
              s.tubes[i].count + (s.coin.inFlight.filter fun c => decide (c.route = some i)).length <
                s.settings.tubes[i].fullMark then some i else none
        | none => none
      let accepted : State := { u with coin := { u.coin with
        inFlight := s.coin.inFlight ++ [{ type := k, value := v, route := route, fill := fill, deadline := s.now + 300 }],
        gateEnd := some (s.now + 150), divert := route.isNone } }
      exec (.passed amp) s = .next
        (if s.doorOpen = true ∧ s.holder = none then rejected (some k) v .door
         else if s.credit.session = .card ∨ s.credit.session = .cardClosing ∨ s.credit.session = .remote ∨
             s.payout.state ≠ .done then rejected (some k) v .session
         else if fill = false ∧
             s.settings.sales.creditLimit < s.credit.cash + (s.coin.inFlight.map (·.value)).sum + v then
           rejected (some k) v .limit
         else if 2 ≤ s.coin.inFlight.length then rejected (some k) v .busy
         else if s.credit.session = .idle then
           ({ accepted with credit := { s.credit with session := .cash } } : State).broadcast
             (.credit .cash s.credit.cash .session)
         else accepted))

/-- CREDIT_PULSE with an empty list is an unexpected coin; with a cash coin in front the coin is counted on its route, credit
and CASH_IN rise by its value, TO_TUBES and TO_CASHBOX together by the same, COIN and then CREDIT go out, and the tests follow;
with a fill coin its tube and TUBE_FILL rise and no credit is given. COIN_DEADLINE loses the oldest coin: COINS_LOST rises,
COIN_REJECT with reason LOST goes out and the tests follow (R36, R37, R38, R39, R43). At a full tube ADJUST_DOWN rises by the
coin's value (model: log 41); the deadline's time: log 3. -/
def Obligations.OldestCoinIsConfirmedOrLost : Prop :=
  (∀ s : State, s.power = .running →
     let counted (i : TubeNo) (v : Nat) (x : State) : State :=
       if x.tubes[i].count < x.settings.tubes[i].capacity then x.modTube i fun t => { t with count := t.count + 1 }
       else x.count .adjustDown v
     (s.coin.inFlight = [] → exec .creditPulse s = .next (s.broadcast (.coinReject none 0 .unexpected))) ∧
     ∀ c rest, s.coin.inFlight = c :: rest →
       let u : State := { s with coin := { s.coin with inFlight := rest } }
       (c.fill = false → exec .creditPulse s = .next
         (let x := match c.route with
           | some i => (counted i c.value u).count .toTubes c.value
           | none => u.count .toCashbox c.value
          let y := ({ x with credit := { x.credit with cash := s.credit.cash + c.value } } : State).count .cashIn c.value
          let z := (y.broadcast (.coin c.route c.value false)).broadcast
            (.credit s.credit.session (s.credit.cash + c.value) .coin)
          if c.route.isSome then z.startTest.idleTest.evalExact else z.startTest.idleTest)) ∧
       (c.fill = true → exec .creditPulse s = .next
         (match c.route with
          | some i => (((counted i c.value u).count .tubeFill c.value).broadcast
             (.coin c.route c.value true)).creditTests.evalExact
          | none => (u.broadcast (.coin none c.value true)).creditTests))) ∧
  (∀ (s : State) (c : InFlight) (rest : List InFlight), s.power = .running → s.coin.inFlight = c :: rest →
     exec .coinDeadline s = .next
       ((State.broadcast (.coinReject (some c.type) c.value .lost)
         (State.count .coinsLost c.value
           { s.advance c.deadline with coin := { s.coin with inFlight := rest } })).creditTests))

/-- TUBE_SENSOR_CHANGE: the sensor's field follows. Of an enabled tube whose sensors do not contradict each other, a full sensor
that becomes COVERED raises a count below the full mark to it and ADJUST_UP by the difference; a low sensor that becomes CLEAR
lowers a count above the low mark to it and ADJUST_DOWN; the exact-change flag is evaluated where the count changed (R44).
SET_TUBE_COUNT: BAD_ARG for a tube above 4 or a count above the capacity, BUSY while a payout is held; otherwise the count is
set, ADJUST_UP or ADJUST_DOWN rises by the difference times the value, and the flag is evaluated (R46). Nothing else changes. -/
def Obligations.TubeSensorAndCountRequest : Prop :=
  (∀ (i : TubeNo) (covered : Bool) (s : State), s.power = .running →
     let c := s.settings.tubes[i]
     let n := s.tubes[i].count
     let moved (k : Counter) (m d : Nat) (x : State) : State :=
       ((x.modTube i fun t => { t with count := m }).count k (d * c.value)).evalExact
     (s.tubes[i].full ≠ covered →
       let u := s.modTube i fun t => { t with full := covered }
       exec (.tubeSensorChange i .full covered) s = .next
         (if covered = true ∧ c.enabled = true ∧ s.tubes[i].low = true ∧ n < c.fullMark then
           moved .adjustUp c.fullMark (c.fullMark - n) u else u)) ∧
     (s.tubes[i].low ≠ covered →
       let u := s.modTube i fun t => { t with low := covered }
       exec (.tubeSensorChange i .low covered) s = .next
         (if covered = false ∧ c.enabled = true ∧ s.tubes[i].full = false ∧ c.lowMark < n then
           moved .adjustDown c.lowMark (n - c.lowMark) u else u))) ∧
  (∀ (l : Link) (tube count : Byte) (s : State), s.Admits l (.setTubeCount tube count) →
     (4 < tube.toNat → exec (.setTubeCount l tube count) s = .next (s.answerOn l 0xD8 [0x11])) ∧
     ∀ i : TubeNo, tube.toNat = i.val →
       let n := count.toNat
       let old := s.tubes[i].count
       let v := s.settings.tubes[i].value
       let u := s.modTube i fun t => { t with count := n }
       (s.settings.tubes[i].capacity < n → exec (.setTubeCount l tube count) s = .next (s.answerOn l 0xD8 [0x11])) ∧
       (n ≤ s.settings.tubes[i].capacity → s.payout.state ≠ .done →
         exec (.setTubeCount l tube count) s = .next (s.answerOn l 0xD8 [0x28])) ∧
       (n ≤ s.settings.tubes[i].capacity → s.payout.state = .done →
         exec (.setTubeCount l tube count) s = .next
           ((if old < n then u.count .adjustUp ((n - old) * v)
             else if n < old then u.count .adjustDown ((old - n) * v) else u).evalExact.answerOn l 0xD8 [0x00])))

/-- SET_COIN_TYPE: BAD_ARG outside the ranges of R30 and for an enabled type whose value its tube does not share, CONFLICT for
an enabled type whose windows overlap another's; otherwise the entry is replaced whole and nothing else changes (R31). -/
def Obligations.SetCoinTypeReplacesEntry : Prop :=
  ∀ (l : Link) (a : CoinTypeArgs) (s : State), s.Admits l (.setCoinType a) →
    let ranged : Prop := a.type.toNat ≤ 7 ∧ a.enabled.toNat ≤ 1 ∧ 1 ≤ a.value.toNat ∧ a.value.toNat ≤ 10000 ∧
      a.fMin.toNat ≤ a.fMax.toNat ∧ a.fMax.toNat ≤ 4095 ∧ a.aMin.toNat ≤ a.aMax.toNat ∧
      (a.dest.toNat ≤ 4 ∨ a.dest = 0xFF)
    (¬ ranged → exec (.setCoinType l a) s = .next (s.answerOn l 0xC2 [0x11])) ∧
    ∀ k : CoinTypeNo, ranged → a.type.toNat = k.val →
      let dest : Option TubeNo := if h : a.dest.toNat < 5 then some ⟨a.dest.toNat, h⟩ else none
      let c : CoinType :=
        { enabled := decide (a.enabled = 1), value := a.value.toNat, fMin := a.fMin.toNat, fMax := a.fMax.toNat,
          aMin := a.aMin.toNat, aMax := a.aMax.toNat, dest := dest }
      let differs : Prop := c.enabled = true ∧ ∃ i : TubeNo, dest = some i ∧ s.settings.tubes[i].value ≠ c.value
      let overlaps : Prop := c.enabled = true ∧ ∃ u : CoinTypeNo, u ≠ k ∧ s.settings.coins[u].enabled = true ∧
        c.fMin ≤ s.settings.coins[u].fMax ∧ s.settings.coins[u].fMin ≤ c.fMax ∧
        c.aMin ≤ s.settings.coins[u].aMax ∧ s.settings.coins[u].aMin ≤ c.aMax
      (differs → exec (.setCoinType l a) s = .next (s.answerOn l 0xC2 [0x11])) ∧
      (¬ differs → overlaps → exec (.setCoinType l a) s = .next (s.answerOn l 0xC2 [0x2D])) ∧
      (¬ differs → ¬ overlaps → exec (.setCoinType l a) s = .next
        (({ s with settings := { s.settings with coins := s.settings.coins.set k c } } : State).answerOn l 0xC2 [0x00]))

/-- SET_TUBE: its four refusals in order; otherwise the settings are replaced, a count above the new capacity falls to it, and
of an enabled tube whose sensors do not contradict each other a COVERED full sensor raises the count to the full mark and a
CLEAR low sensor lowers it to the low mark; ADJUST_UP or ADJUST_DOWN rises by the coins times the new value, and the exact-change
flag is evaluated. Nothing else changes (R43, R44, R45). -/
def Obligations.SetTubeReplacesSettings : Prop :=
  ∀ (l : Link) (a : TubeArgs) (s : State), s.Admits l (.setTube a) →
    let ranged : Prop := a.tube.toNat ≤ 4 ∧ a.enabled.toNat ≤ 1 ∧ 1 ≤ a.value.toNat ∧ a.value.toNat ≤ 10000 ∧
      1 ≤ a.capacity.toNat ∧ a.capacity.toNat ≤ 200 ∧ 1 ≤ a.fullMark.toNat ∧ a.fullMark.toNat ≤ a.capacity.toNat ∧
      a.lowMark.toNat < a.fullMark.toNat ∧ a.floor.toNat ≤ a.capacity.toNat
    (¬ ranged → exec (.setTube l a) s = .next (s.answerOn l 0xC3 [0x11])) ∧
    ∀ i : TubeNo, ranged → a.tube.toNat = i.val →
      let c : TubeSettings :=
        { enabled := decide (a.enabled = 1), value := a.value.toNat, capacity := a.capacity.toNat,
          fullMark := a.fullMark.toNat, lowMark := a.lowMark.toNat, floor := a.floor.toNat }
      let differs : Prop := ∃ k : CoinTypeNo, s.settings.coins[k].enabled = true ∧ s.settings.coins[k].dest = some i ∧
        s.settings.coins[k].value ≠ c.value
      let n := s.tubes[i].count
      let held := min n c.capacity
      let final := if c.enabled = true ∧ s.tubes[i].full = true ∧ s.tubes[i].low = true ∧ held < c.fullMark then
          c.fullMark
        else if c.enabled = true ∧ s.tubes[i].full = false ∧ s.tubes[i].low = false ∧ c.lowMark < held then c.lowMark
        else held
      (differs → exec (.setTube l a) s = .next (s.answerOn l 0xC3 [0x11])) ∧
      (¬ differs → c.value ≠ s.settings.tubes[i].value → 0 < n →
        exec (.setTube l a) s = .next (s.answerOn l 0xC3 [0x20])) ∧
      (¬ differs → (c.value = s.settings.tubes[i].value ∨ n = 0) → s.payout.state ≠ .done →
        exec (.setTube l a) s = .next (s.answerOn l 0xC3 [0x28])) ∧
      (¬ differs → (c.value = s.settings.tubes[i].value ∨ n = 0) → s.payout.state = .done →
        let u : State := { s with
          settings := { s.settings with tubes := s.settings.tubes.set i c },
          tubes := s.tubes.set i { s.tubes[i] with count := final } }
        exec (.setTube l a) s = .next
          ((if n < final then u.count .adjustUp ((final - n) * c.value)
            else if final < n then u.count .adjustDown ((n - final) * c.value) else u).evalExact.answerOn l 0xC3 [0x00]))

/-! ## Plans and payouts (spec/03) -/

/-- The planner's answer: the lexicographically greatest exact plan of pass 1 if there is one, else of pass 2, else the greatest
plan of the greatest total that pass 2 reaches below the amount, the rest owed (R51, R52). The denominations are the values of
the enabled tubes, largest first, each once; a denomination's availability is the sum over its enabled tubes of the count, in
pass 1 of the count above the floor (R50). -/
def Obligations.PlannerTakesGreatestPlan : Prop :=
  (∀ (s : State) (c : Nat), (∀ i : TubeNo, s.settings.tubes[i].enabled = true → 0 < s.settings.tubes[i].value) →
     let one := s.denominations .one
     let two := s.denominations .two
     let p := s.planFor c
     ((∃ r, ExactPlan one r c) →
       p.pass = .one ∧ p.owed = 0 ∧ ∃ r, GreatestPlan one r c ∧ p.counts = s.tubeValues.zip r) ∧
     ((¬ ∃ r, ExactPlan one r c) → (∃ r, ExactPlan two r c) →
       p.pass = .two ∧ p.owed = 0 ∧ ∃ r, GreatestPlan two r c ∧ p.counts = s.tubeValues.zip r) ∧
     ((¬ ∃ r, ExactPlan one r c) → (¬ ∃ r, ExactPlan two r c) →
       p.pass = .under ∧ ∃ total r, total ≤ c ∧ GreatestPlan two r total ∧ p.counts = s.tubeValues.zip r ∧
         p.owed = c - total ∧ ∀ more, total < more → more ≤ c → ¬ ∃ r', ExactPlan two r' more)) ∧
  (∀ s : State, s.tubeValues.Pairwise (· > ·) ∧
     (∀ v, v ∈ s.tubeValues ↔ ∃ i : TubeNo, s.settings.tubes[i].enabled = true ∧ s.settings.tubes[i].value = v) ∧
     ∀ pass, s.denominations pass = s.tubeValues.map fun v =>
       (v, (([0, 1, 2, 3, 4] : List TubeNo).map fun i =>
         if s.settings.tubes[i].enabled = true ∧ s.settings.tubes[i].value = v then
           (if pass = .one then s.tubes[i].count - s.settings.tubes[i].floor else s.tubes[i].count)
         else 0).sum))

/-- The tube that gives a coin: under a pass 1 plan an enabled tube of the denomination above its floor where there is one, else
one with a count above 0; of these the one with the highest count, a tie going to the lower number; none where no enabled tube
of the denomination has a coin (R53). -/
def Obligations.FullestTubeGivesCoin : Prop :=
  ∀ (s : State) (v : Nat) (pass : Pass),
    let able (b : Bool) (i : TubeNo) : Prop := s.settings.tubes[i].enabled = true ∧ s.settings.tubes[i].value = v ∧
      (if b then s.settings.tubes[i].floor else 0) < s.tubes[i].count
    let above : Prop := pass = .one ∧ ∃ i, able true i
    (∀ i, s.chooseTube v pass = some i →
      ∃ b : Bool, (b = true ↔ above) ∧ able b i ∧
        ∀ j, able b j → s.tubes[j].count < s.tubes[i].count ∨ (s.tubes[j].count = s.tubes[i].count ∧ i ≤ j)) ∧
    (s.chooseTube v pass = none ↔ ∀ i, ¬ able false i)

/-- The evaluation of the exact-change flag: set when no tube is enabled and the horizon is above 0, or when some multiple of
the smallest enabled value within the horizon has no exact plan under the pass 2 availabilities; a change is broadcast with the
smallest such amount, and nothing else changes (R54, R55). -/
def Obligations.ExactChangeFlagEvaluated : Prop :=
  ∀ s : State, (∀ i : TubeNo, s.settings.tubes[i].enabled = true → 0 < s.settings.tubes[i].value) →
    let horizon := s.settings.sales.horizon
    let fails (g k : Nat) : Prop := 1 ≤ k ∧ k * g ≤ horizon ∧ ¬ ∃ r, ExactPlan (s.denominations .two) r (k * g)
    let noTube : Prop := ∀ i : TubeNo, s.settings.tubes[i].enabled = false
    let least (g : Nat) : Prop := (∃ i : TubeNo, s.settings.tubes[i].enabled = true ∧ s.settings.tubes[i].value = g) ∧
      ∀ i : TubeNo, s.settings.tubes[i].enabled = true → g ≤ s.settings.tubes[i].value
    let becomes (flag : Bool) (value : Nat) : Prop := s.evalExact =
      if s.exactChange = flag then s else State.broadcast (.exactChange value flag) { s with exactChange := flag }
    (noTube → becomes (decide (0 < horizon)) 0) ∧
    (∀ g, least g → (∀ k, ¬ fails g k) → becomes false 0) ∧
    (∀ g k, least g → fails g k → (∀ j, fails g j → k ≤ j) → becomes true (k * g))

/-- A coin attempt: of a session payout the largest denomination with coins remaining gives the value, R53 the tube, and its
ejector is driven for 40 ms with a window that closes 150 ms later; without a tube the amount still to pay is planned again. A
dispense pulses its own tube. EJECT_PULSE_END switches the ejector off and leaves the window open; NEXT_COIN_START begins the
next attempt at its time (R59, R62, R69; log 3, 33). -/
def Obligations.CoinAttemptsBeginAndPulsesEnd : Prop :=
  (∀ s : State,
     let pulsed (i : TubeNo) (k : PayKind) : State := { s with payout := { s.payout with
       current := some { tube := i, pulse := 1, driven := true, seenAt := none, pulseEnd := s.now + 40,
                         windowEnd := s.now + 40 + 150 },
       last := some { tube := i, kind := k, origin := s.payout.origin }, nextAt := none } }
     (∀ empty v n rest plan, s.payout.kind = some .session → s.payout.plan = some plan →
       s.payout.remaining = empty ++ (v, n) :: rest → (∀ d ∈ empty, d.2 = 0) → 0 < n →
       (∀ i, s.chooseTube v plan.pass = some i → s.beginCoin = pulsed i .session) ∧
       (s.chooseTube v plan.pass = none → s.beginCoin = { s with payout := { s.payout with
         state := .planning, current := none, nextAt := none,
         answer := some (s.planFor (s.payout.requested - s.payout.paid)) } })) ∧
     (∀ i, s.payout.kind = some .dispense → s.payout.tube = some i → s.beginCoin = pulsed i .dispense)) ∧
  (∀ s : State, s.power = .running →
     (∀ e, s.payout.current = some e → e.driven = true → exec .ejectPulseEnd s = .next
       { s.advance e.pulseEnd with payout := { s.payout with current := some { e with driven := false } } }) ∧
     (∀ x, s.payout.nextAt = some x → s.payout.state = .ejecting →
       exec .nextCoinStart s = .next (s.advance x).beginCoin))

/-- PLANNING_END of a session payout: the plan is taken into the record; a first plan without a coin ends the payout, otherwise
an open door holds it, otherwise it claims and waits or, granted, begins its first coin; a re-plan looks to the door first, ends
without a coin, and otherwise goes on at once. A pending SOFT_RESTART ends it (R57, R62, R65, R66, R70). The queue is empty
while a session payout is held (R18). The order of ends that wait together: log 14; a door that opened during PLANNING holds
the payout though it has closed again: log 40; the planner's answer: log 33. -/
def Obligations.PlanningEndMovesOn : Prop :=
  ∀ (s : State) (p : Plan), s.power = .running → s.payout.state = .planning → s.payout.answer = some p →
    s.payout.kind = some .session → s.queue = [] →
    let planned : Payout := { s.payout with plan := some p, remaining := p.counts, answer := none }
    let zero : Prop := ∀ d ∈ p.counts, d.2 = 0
    let door : Prop := s.doorOpen = true ∨ s.payout.holdPending = true
    let ended (t : State) : Prop := t.payout.state = .done ∧ t.payout.plan = some p ∧ t.payout.paid = s.payout.paid ∧
      (∀ c ∈ t.claims, c.owner ≠ .payout) ∧ t.credit.cash = s.credit.cash ∧ t.credit.payoutActive = false ∧
      t.credit.owed = s.credit.cash ∧ t.tubes = s.tubes ∧ t.settings = s.settings
    let held (t : State) : Prop := t.payout.state = .hold ∧ t.payout.plan = some p ∧ t.payout.remaining = p.counts ∧
      (∀ c ∈ t.claims, c.owner ≠ .payout) ∧ t.credit = s.credit ∧ t.tubes = s.tubes ∧ t.settings = s.settings
    (s.payout.restartPending = true → ∃ t : State, exec .planningEnd s = .next t ∧ ended t) ∧
    (s.payout.restartPending = false → s.isGranted .payout = false →
      (zero → ∃ t : State, exec .planningEnd s = .next t ∧ ended t) ∧
      (¬ zero → door → ∃ t : State, exec .planningEnd s = .next t ∧ held t) ∧
      (¬ zero → ¬ door → (∀ c ∈ s.claims, c.granted = true ∧ c.owner ≠ .payout) →
        let claim : Claim := { owner := .payout, size := s.settings.budget.payout, promoted := false, granted := false,
                               placedAt := s.now }
        exec .planningEnd s = .next
          (if grantedTotal s.claims + s.settings.budget.payout ≤ s.budget then
            State.beginCoin { s with payout := { planned with state := .ejecting },
                                     claims := s.claims ++ [{ claim with granted := true }] }
          else { s with payout := { planned with state := .waitGrant }, claims := s.claims ++ [claim] }))) ∧
    (s.payout.restartPending = false → s.isGranted .payout = true →
      (door → ∃ t : State, exec .planningEnd s = .next t ∧ held t) ∧
      (¬ door → zero → ∃ t : State, exec .planningEnd s = .next t ∧ ended t) ∧
      (¬ door → ¬ zero → exec .planningEnd s = .next
        (State.beginCoin { s with payout := { planned with state := .ejecting } })))

/-- EXIT_PULSE: the first in a window is the coin: its tube's count falls, held at 0, paid rises, remaining falls, and the
credit and PAID_OUT, or TUBE_DISPENSE, move by its value; any other is a surplus coin of the current or the last tube, which
moves its counters and is reported to the origin of that payout; before any coin it is ignored. The exact-change flag is
evaluated (R60, R63, R19, R69). Owed stays within the credit (R1, R21; log 36). A `paid` above 60,000 is a free value (log 10). -/
def Obligations.ExitPulseCountsCoin : Prop :=
  ∀ s : State, s.power = .running →
    let out (i : TubeNo) (x : State) : State := x.modTube i fun t => { t with count := t.count - 1 }
    (∀ e, s.payout.current = some e → e.seenAt = none →
      let v := s.settings.tubes[e.tube].value
      let free : Bool := decide (60000 < s.payout.paid + v)
      let paid := if free then (Config.freePaid s.free).val else s.payout.paid + v
      let u : State := { out e.tube s with free := if free then s.free + 1 else s.free }
      (s.payout.kind = some .session → (s.payout.remaining.map (·.1)).Nodup → exec .exitPulse s = .next
        (State.evalExact (State.count .paidOut v { u with
          payout := { s.payout with
            current := some { e with seenAt := some s.now }, paid := paid,
            remaining := s.payout.remaining.map fun d => if d.1 = v then (d.1, d.2 - 1) else d },
          credit := { s.credit with cash := s.credit.cash - v, owed := min s.credit.owed (s.credit.cash - v) } }))) ∧
      (s.payout.kind = some .dispense → exec .exitPulse s = .next
        (State.evalExact (State.count .tubeDispense v { u with
          payout := { s.payout with
            current := some { e with seenAt := some s.now }, paid := paid, coins := s.payout.coins - 1 } })))) ∧
    (∀ last i, s.payout.last = some last →
      ((∃ e, s.payout.current = some e ∧ e.seenAt.isSome = true ∧ e.tube = i) ∨
        (s.payout.current = none ∧ last.tube = i)) →
      let v := s.settings.tubes[i].value
      exec .exitPulse s = .next
        (State.evalExact (State.deliver (.payout i.val v .surplus) [last.origin]
          (match last.kind with
           | .session => ((out i s).count .paidOut v).count .payoutSurplus v
           | .dispense => (out i s).count .tubeDispense v)))) ∧
    (s.payout.current = none → s.payout.last = none → exec .exitPulse s = .next s)

/-- EXIT_WINDOW_CLOSE: an empty first window gives the same tube a second pulse; an empty second one declares the tube dry,
after which a session payout is planned again and a dispense ends DRY; after a coin the payout ends when none remains, holds for
a door that has opened, ends for a privilege that was released, or goes on at the later of now and 120 ms after the exit. A pending
SOFT_RESTART ends it at any of these closes, and a waiting hold or release acts at the close of a first window in place of the second
pulse. An end reports its reason, with the owed amount or the tube and the amount paid, to the origin (R59, R61, R62, R64, R65, R66,
R69, R70; the clock: log 3; ends that wait together: log 14, 40; a door or a release waiting at a dry end: log 44, 45). -/
def Obligations.ExitWindowCloseGoesOn : Prop :=
  ∀ (s : State) (e : Ejection), s.power = .running → s.payout.current = some e →
    (∀ o ∈ s.queue, o.state = .turning) →
    let u := s.advance e.windowEnd
    let calm : Prop := s.payout.restartPending = false ∧ s.payout.holdPending = false ∧ s.payout.releasePending = false
    let finished : Prop := if s.payout.kind = some .session then ∀ d ∈ s.payout.remaining, d.2 = 0 else s.payout.coins = 0
    let dry : State :=
      let x := u.modTube e.tube fun t => { t with count := 0 }
      if 0 < s.tubes[e.tube].count then
        x.count .adjustDown (s.tubes[e.tube].count * s.settings.tubes[e.tube].value) else x
    let subject : Nat := if s.payout.kind = some .dispense then (match s.payout.tube with
        | some i => i.val
        | none => 0)
      else s.credit.cash
    let ended (why : PayoutReason) (t : State) : Prop := t.payout.state = .done ∧ t.payout.current = none ∧
      t.payout.paid = s.payout.paid ∧ (∀ c ∈ t.claims, c.owner ≠ .payout) ∧ t.credit.cash = s.credit.cash ∧
      (s.payout.kind = some .session → t.credit.payoutActive = false ∧ t.credit.owed = s.credit.cash) ∧
      (s.links[s.payout.origin].notices.length < 16 →
        ⟨.payout subject s.payout.paid why, none⟩ ∈ t.links[s.payout.origin].notices)
    let holds (t : State) : Prop := t.payout.state = .hold ∧ t.payout.current = none ∧
      t.payout.remaining = s.payout.remaining ∧ (∀ c ∈ t.claims, c.owner ≠ .payout) ∧ t.credit = s.credit
    (e.seenAt = none → e.pulse = 1 → calm → exec .exitWindowClose s = .next
      { u with payout := { s.payout with
        current := some { tube := e.tube, pulse := 2, driven := true, seenAt := none, pulseEnd := u.now + 40,
                          windowEnd := u.now + 40 + 150 },
        last := some { tube := e.tube, kind := s.payout.kind.getD .session, origin := s.payout.origin },
        nextAt := none } }) ∧
    (e.seenAt = none → e.pulse = 1 →
      (s.payout.restartPending = true → ∃ t : State, exec .exitWindowClose s = .next t ∧ ended .restart t ∧
        t.tubes = s.tubes ∧ t.lifetime = s.lifetime) ∧
      (s.payout.restartPending = false → s.payout.holdPending = true →
        ∃ t : State, exec .exitWindowClose s = .next t ∧ holds t ∧ t.tubes = s.tubes ∧ t.lifetime = s.lifetime) ∧
      (s.payout.restartPending = false → s.payout.holdPending = false → s.payout.releasePending = true →
        ∃ t : State, exec .exitWindowClose s = .next t ∧ ended .ended t ∧ t.tubes = s.tubes ∧
          t.lifetime = s.lifetime)) ∧
    (e.seenAt = none → e.pulse = 2 → s.payout.restartPending = false → s.payout.kind = some .session →
      exec .exitWindowClose s = .next (State.evalExact { dry with payout := { s.payout with
        state := .planning, current := none, nextAt := none,
        answer := some (dry.planFor (s.payout.requested - s.payout.paid)) } })) ∧
    (e.seenAt = none → e.pulse = 2 → (s.payout.kind = some .dispense ∨ s.payout.restartPending = true) →
      ∃ t : State, exec .exitWindowClose s = .next t ∧
        ended (if s.payout.restartPending then .restart else .dry) t ∧ t.tubes = dry.tubes ∧ t.lifetime = dry.lifetime) ∧
    (∀ x, e.seenAt = some x → (s.payout.restartPending = true ∨ finished) →
      ∃ t : State, exec .exitWindowClose s = .next t ∧
        ended (if s.payout.restartPending then .restart else if s.payout.kind = some .session then .done else .ended) t ∧
        t.tubes = s.tubes ∧ t.lifetime = s.lifetime) ∧
    (∀ x, e.seenAt = some x → s.payout.restartPending = false → ¬ finished → s.payout.holdPending = true →
      ∃ t : State, exec .exitWindowClose s = .next t ∧ holds t) ∧
    (∀ x, e.seenAt = some x → s.payout.restartPending = false → ¬ finished → s.payout.holdPending = false →
      s.payout.releasePending = true →
      ∃ t : State, exec .exitWindowClose s = .next t ∧ ended .ended t ∧ t.tubes = s.tubes ∧ t.lifetime = s.lifetime) ∧
    (∀ x, e.seenAt = some x → calm → ¬ finished → s.payout.state = .ejecting → exec .exitWindowClose s = .next
      (if x + 120 ≤ u.now then State.beginCoin { u with payout := { s.payout with current := none } }
       else { u with payout := { s.payout with current := none, nextAt := some (x + 120) } }))

/-- TUBE_DISPENSE: BAD_ARG for a tube above 4 or a number outside 1…200, STATE outside IDLE, BUSY while a payout is held;
otherwise the record of a dispense is filled and its claim placed: granted where it fits, it ejects its first coin at once (R68,
R69). -/
def Obligations.TubeDispenseStarts : Prop :=
  ∀ (l : Link) (tube coins : Byte) (s : State), s.Admits l (.tubeDispense tube coins) →
    let n := coins.toNat
    (4 < tube.toNat ∨ n = 0 ∨ 200 < n → exec (.tubeDispense l tube coins) s = .next (s.answerOn l 0xD6 [0x11])) ∧
    (tube.toNat ≤ 4 → 1 ≤ n → n ≤ 200 → s.credit.session ≠ .idle →
      exec (.tubeDispense l tube coins) s = .next (s.answerOn l 0xD6 [0x20])) ∧
    (tube.toNat ≤ 4 → 1 ≤ n → n ≤ 200 → s.credit.session = .idle → s.payout.state ≠ .done →
      exec (.tubeDispense l tube coins) s = .next (s.answerOn l 0xD6 [0x28])) ∧
    ∀ i : TubeNo, tube.toNat = i.val → 1 ≤ n → n ≤ 200 → s.credit.session = .idle → s.payout.state = .done →
      s.queue = [] → (∀ c ∈ s.claims, c.granted = true ∧ c.owner ≠ .payout) →
      let record : Payout := { initPayout with kind := some .dispense, origin := l, tube := some i, requested := n,
                                               coins := n, last := s.payout.last }
      let claim : Claim := { owner := .payout, size := s.settings.budget.payout, promoted := false, granted := false,
                             placedAt := s.now }
      exec (.tubeDispense l tube coins) s = .next (State.answerOn l 0xD6 [0x01]
        (if grantedTotal s.claims + s.settings.budget.payout ≤ s.budget then
          State.beginCoin { s with payout := { record with state := .ejecting },
                                   claims := s.claims ++ [{ claim with granted := true }] }
        else { s with payout := { record with state := .waitGrant }, claims := s.claims ++ [claim] }))

/-! ## Selections and the vend queue (spec/04) -/

/-- The next order id is in 1…255, held by no order of the queue, and the first such id in sequence after the last one, 255
being followed by 1 (R81). ORDER makes its checks in order, and the first that fails gives the status; then the funding step: a
CASH order within the available credit reserves its price and is READY; a free vend makes the session CASH; a CARD order within
the unreserved funds reserves on the card, waits for approval for 10 s and asks the terminal. The order captures price and
spirals, takes the next id and joins the back; the acceptance is activity, the head claims, and the events a grant leaves are
settled (R83, R9, R14, R115; the state that the response gives: log 12; settling before the response: log 13). -/
def Obligations.OrderChecksAndFunds : Prop :=
  (∀ s : State, s.queue.length ≤ 4 → s.lastId ≤ 255 →
     1 ≤ s.nextId ∧ s.nextId ≤ 255 ∧ (∀ o ∈ s.queue, o.id ≠ s.nextId) ∧
     ∃ k, (∀ j, j < k → ∃ o ∈ s.queue, o.id = (s.lastId + j) % 255 + 1) ∧ s.nextId = (s.lastId + k) % 255 + 1) ∧
  (∀ (l : Link) (sel : Byte) (s : State), s.Admits l (.order sel) →
     let refused (code : Byte) : Prop := exec (.order l sel) s = .next (s.answerOn l 0x90 [code])
     (s.credit.payoutActive = true → refused 0x28) ∧
     (s.credit.payoutActive = false → s.doorOpen = true → refused 0x26) ∧
     (s.credit.payoutActive = false → s.doorOpen = false → 80 ≤ sel.toNat → refused 0x11) ∧
     ∀ i : Sel, sel.toNat = i.val → s.credit.payoutActive = false → s.doorOpen = false →
       let domain : Prop := s.settings.links[l].domains.getLsbD s.settings.sels[i].domain.val = true
       let stocked : Prop := ∀ n, s.sels[i].stock = some n → (s.queue.filter fun o => decide (o.sel = i)).length < n
       let price := s.settings.sels[i].price
       let order (f : Funding) (card : Option Link) (st : OrderState) (deadline : Option Nat) : Order :=
         { id := s.nextId, sel := i, spirals := s.spiralsOf i, price := price, funding := f, origin := l,
           cardLink := card, state := st, turns := 0, deadline := deadline, endReason := none }
       let joined (o : Order) : State := { s with
         queue := s.queue ++ [o], lastId := s.nextId,
         lapsed := s.lapsed.filter fun e => decide (e.id ≠ s.nextId) }
       let placed (st : Byte) (t : State) : Prop := exec (.order l sel) s = .next
         (t.activity.claimHead.settle.answerOn l 0x90 [0x01, byte s.nextId, st])
       (¬ domain → refused 0x25) ∧
       (domain → s.sels[i].holds ≠ 0 → refused 0x23) ∧
       (domain → s.sels[i].holds = 0 → ¬ stocked → refused 0x24) ∧
       (domain → s.sels[i].holds = 0 → stocked → 4 ≤ s.queue.length → refused 0x22) ∧
       (domain → s.sels[i].holds = 0 → stocked → s.queue.length < 4 →
         (s.credit.session = .cash → price ≤ s.credit.cash - s.credit.reserved → placed 1
           { joined (order .cash none .ready none) with
             credit := { s.credit with reserved := s.credit.reserved + price } }) ∧
         (s.credit.session = .cash → s.credit.cash - s.credit.reserved < price → refused 0x21) ∧
         (s.credit.session = .idle → price = 0 → placed 1
           (State.broadcast (.credit .cash s.credit.cash .session)
             { joined (order .cash none .ready none) with credit := { s.credit with session := .cash } })) ∧
         (s.credit.session = .idle → 0 < price → refused 0x21) ∧
         (∀ c, s.credit.session = .card → s.card = some c → price ≤ c.funds - c.reserved → placed 0
           (State.deliver (.approvalNeeded s.nextId price) [c.link]
             { joined (order .card (some c.link) .waitApproval (some (s.now + 10000))) with
               card := some { c with reserved := c.reserved + price, idleEnd := none } })) ∧
         (∀ c, s.credit.session = .card → s.card = some c → c.funds - c.reserved < price → refused 0x21) ∧
         (s.credit.session = .cardClosing ∨ s.credit.session = .remote → refused 0x20)))

/-- REMOTE_ORDER makes its checks in order; accepted, the session is REMOTE and the order, READY, is the queue's only one (R84,
R23). TEST_TURN makes its checks in order; accepted, a TEST order at price 0 joins the empty queue; it is no activity (R85).
The state that the response gives: log 12; settling before the response: log 13. -/
def Obligations.RemoteAndTestOrdersArePlaced : Prop :=
  (∀ (l : Link) (sel : Byte) (s : State), s.Admits l (.remoteOrder sel) →
     let refused (code : Byte) : Prop := exec (.remoteOrder l sel) s = .next (s.answerOn l 0xA8 [code])
     (s.doorOpen = true → refused 0x26) ∧
     (s.doorOpen = false → 80 ≤ sel.toNat → refused 0x11) ∧
     ∀ i : Sel, sel.toNat = i.val → s.doorOpen = false →
       let domain : Prop := s.settings.links[l].domains.getLsbD s.settings.sels[i].domain.val = true
       (¬ domain → refused 0x25) ∧
       (domain → s.sels[i].holds ≠ 0 → refused 0x23) ∧
       (domain → s.sels[i].holds = 0 → s.sels[i].stock = some 0 → refused 0x24) ∧
       (domain → s.sels[i].holds = 0 → s.sels[i].stock ≠ some 0 →
         (s.credit.session ≠ .idle → refused 0x20) ∧
         (s.credit.session = .idle → s.queue ≠ [] → refused 0x28) ∧
         (s.credit.session = .idle → s.queue = [] →
           let order : Order :=
             { id := s.nextId, sel := i, spirals := s.spiralsOf i, price := s.settings.sels[i].price, funding := .remote,
               origin := l, cardLink := none, state := .ready, turns := 0, deadline := none, endReason := none }
           let u : State := State.broadcast (.credit .remote s.credit.cash .session)
             { s with credit := { s.credit with session := .remote } }
           exec (.remoteOrder l sel) s = .next (State.answerOn l 0xA8 [0x01, byte s.nextId, 1]
             (State.activity { u with queue := [order], lastId := s.nextId,
                                      lapsed := s.lapsed.filter fun e => decide (e.id ≠ s.nextId)
                             }).claimHead.settle)))) ∧
  (∀ (l : Link) (sel : Byte) (s : State), s.Admits l (.testTurn sel) →
     let refused (code : Byte) : Prop := exec (.testTurn l sel) s = .next (s.answerOn l 0xD5 [code])
     (80 ≤ sel.toNat → refused 0x11) ∧
     ∀ i : Sel, sel.toNat = i.val →
       (s.queue ≠ [] ∨ s.payout.state ≠ .done → refused 0x28) ∧
       (s.queue = [] → s.payout.state = .done → s.sels[i].holds.getLsbD 4 = true → refused 0x23) ∧
       (s.queue = [] → s.payout.state = .done → s.sels[i].holds.getLsbD 4 = false →
         let order : Order :=
           { id := s.nextId, sel := i, spirals := s.spiralsOf i, price := 0, funding := .test, origin := l,
             cardLink := none, state := .ready, turns := 0, deadline := none, endReason := none }
         exec (.testTurn l sel) s = .next (State.answerOn l 0xD5 [0x01, byte s.nextId, 1]
           (State.claimHead { s with queue := [order], lastId := s.nextId,
                                     lapsed := s.lapsed.filter fun e => decide (e.id ≠ s.nextId) }).settle)))

/-- The head's claim: READY with no probe running, it enters WAIT_GRANT with its notice and claims the motor size for each
spiral; where the claim fits behind no other waiting one it is granted at once and the head is told; in any other state of the
head nothing happens. The grant: with an empty hold set, or for TEST without NO_MOTOR, the head is TURNING with its notice and
the drive begins its first turn; with a hold the event fails it HELD, with VEND_FAILS and its VEND_RESULT, and releases its claim
(R82, R97, R156, R159). The order of grants and ends in one event: log 13; a turn whose cams are all away: log 18. -/
def Obligations.HeadClaimsAndTurns : Prop :=
  (∀ (s : State) (o : Order) (rest : List Order), s.queue = o :: rest →
     let probing : Prop := s.drive.phase = .probeWait ∨ s.drive.phase = .probing
     (o.state ≠ .ready ∨ probing → s.claimHead = s) ∧
     (o.state = .ready → ¬ probing → (∀ x ∈ rest, x.id ≠ o.id) →
       (∀ c ∈ s.claims, c.granted = true ∧ c.owner ≠ .vend) →
       let size := s.settings.budget.motor * o.spirals.positions.length
       let claim : Claim := { owner := .vend, size := size, promoted := false, granted := false, placedAt := s.now }
       let u := State.stateNotice o .waitGrant { s with queue := { o with state := .waitGrant } :: rest }
       s.claimHead =
         if grantedTotal s.claims + size ≤ s.budget then
           State.vendGranted { u with claims := s.claims ++ [{ claim with granted := true }] }
         else { u with claims := s.claims ++ [claim] })) ∧
  (∀ (s : State) (o : Order) (rest : List Order), s.queue = o :: rest → o.state = .waitGrant →
     (∀ x ∈ rest, x.id ≠ o.id) →
     let may : Prop := if o.funding = .test then s.sels[o.sel].holds.getLsbD 4 = false else s.sels[o.sel].holds = 0
     (may → s.drive.brake = none →
       let away (p : Pos) : CamState := if s.cams[p] then .left else .away
       let cams := o.spirals.positions.map away
       s.vendGranted = { State.stateNotice o .turning { s with queue := { o with state := .turning, turns := o.turns + 1 } :: rest }
         with drive := { s.drive with
           phase := if cams.all fun c => decide (c = .left) then .run else .start,
           service := some { order := o.id, spirals := o.spirals, profile := s.profileOf (s.zoneOf o.sel), dropSeen := false },
           cams := cams, pending := none, brake := none, turnStart := s.now, openChecked := false, windowEnd := none } }) ∧
     (¬ may → s.vendGranted = s) ∧
     (¬ may → s.isGranted .vend = true → rest = [] → s.card = none → s.payout.state = .done →
       ∃ t : State, s.settleOne = some t ∧ t.queue = [] ∧ t.sels = s.sels ∧ (∀ c ∈ t.claims, c.owner ≠ .vend) ∧
         t.lifetime = (s.endOrder o .failed .held).lifetime ∧ t.interim = (s.endOrder o .failed .held).interim ∧
         t.lifetime[Counter.vendFails.code] = s.lifetime[Counter.vendFails.code] + 1 ∧
         (s.links[o.origin].notices.length < 16 →
           ⟨.vendResult o.id o.price .held, none⟩ ∈ t.links[o.origin].notices)))

/-- The end of an order in the queue: DONE moves the money of its funding, VENDS, the sale count, the stock and the no-drop run,
and adds SOLD_OUT where the stock comes to 0; FAILED releases the reservation, raises VEND_FAILS and changes the selection by
its reason; CANCELLED releases the reservation alone. A CARD order's money is that of the card record, whose idle timer starts
again when the last CARD order leaves a session that is not being closed. VEND_RESULT goes to the origin and the card link, and
then SELECTION_HOLD out where the hold set changed. The order leaves and every other order stays (R89, R90, R91, R92, R10, R11, R75,
R116, R121). The stock after a success at stock 0 is a free value (log 32). -/
def Obligations.OrderEndDoesItsBooks : Prop :=
  ∀ (s : State) (o : Order) (st : OrderState) (r : EndReason), o ∈ s.queue → (s.queue.map (·.id)).Nodup →
    let t := s.endOrder o st r
    let done : Prop := st = .done
    let before := s.sels[o.sel]
    let after := t.sels[o.sel]
    let rise (c : Counter) : BitVec 32 := BitVec.ofNat 32 (
      (if c = .vends ∧ done then 1 else 0) + (if c = .vendFails ∧ st = .failed then 1 else 0) +
      (if c = .cashSales ∧ done ∧ o.funding = .cash then o.price else 0) +
      (if c = .cardSales ∧ done ∧ o.funding = .card then o.price else 0) +
      (if c = .remoteSales ∧ done ∧ o.funding = .remote then o.price else 0))
    t.queue = s.queue.filter (fun x => decide (x.id ≠ o.id)) ∧
    t.credit = (if o.funding = .cash then
        if done then { s.credit with cash := s.credit.cash - o.price, reserved := s.credit.reserved - o.price, vended := true,
                                     owed := min s.credit.owed (s.credit.cash - o.price) }
        else { s.credit with reserved := s.credit.reserved - o.price }
      else s.credit) ∧
    t.card = (match s.card with
      | none => none
      | some c =>
        let k : CardSession := if o.funding = .card then
            { c with reserved := c.reserved - o.price, funds := if done then c.funds - o.price else c.funds }
          else c
        if o.funding = .card ∧ c.closing = none ∧ ∀ x ∈ s.queue, x.id ≠ o.id → x.funding ≠ .card then
          some { k with idleEnd := some (s.now + s.settings.sales.cardIdle * 1000) }
        else some k) ∧
    (∀ i : Sel, i ≠ o.sel → t.sels[i] = s.sels[i]) ∧
    (done → after.saleCount = before.saleCount + 1 ∧ after.noDropRun = 0 ∧
      after.stock = (match before.stock with
        | none => none
        | some 0 => some (Config.freeStock s.free).val
        | some (n + 1) => some n) ∧
      after.holds = (if after.stock = some 0 then before.holds ||| 0b00010 else before.holds)) ∧
    (st = .failed → after.saleCount = before.saleCount ∧ after.stock = before.stock ∧
      after.noDropRun = (if r = .noDrop then min 2 (before.noDropRun + 1) else before.noDropRun) ∧
      after.holds = (match r with
        | .noDrop => if before.noDropRun < 2 ∧ after.noDropRun = 2 then before.holds ||| 0b00010 else before.holds
        | .jam => before.holds ||| 0b00100
        | .noStart => before.holds ||| 0b00100
        | .noMotor => before.holds ||| 0b10000
        | _ => before.holds)) ∧
    (st = .cancelled → t.sels = s.sels ∧ t.lifetime = s.lifetime ∧ t.interim = s.interim) ∧
    (∀ c : Counter, t.lifetime[c.code] = s.lifetime[c.code] + rise c ∧ t.interim[c.code] = s.interim[c.code] + rise c) ∧
    (let addressed : List Link := match o.cardLink with
       | some l => if l = o.origin then [l] else [o.origin, l]
       | none => [o.origin]
     let told := s.deliver (.vendResult o.id o.price (if done then .done else r)) addressed
     let kind : HoldKind := if done ∨ r = .noDrop then .soldOut else if r = .noMotor then .noMotor else .jammed
     t.links = (if after.holds = before.holds then told
       else told.broadcast (.selectionHold o.sel after.holds kind)).links) ∧
    { t with queue := s.queue, credit := s.credit, card := s.card, sels := s.sels, lifetime := s.lifetime,
             interim := s.interim, links := s.links, free := s.free } = s

/-- CANCEL_ORDER: BAD_ARG for id 0, NOT_FOUND without an order of this link under the id, STATE while it turns; otherwise, in any
queue, a claim that waits is withdrawn, the order ends CANCELLED as R89 gives, the tests after an order follow, the head claims, and
the answer is OK. For an order alone in the queue: its reservation on the credit or the card record is released, the card's idle
timer starts again, VEND_RESULT with the reason CANCELLED goes to the origin and the card link, and no selection and no counter in
either copy moves (R86, R89, R10, R116, R121; settling: log 13). -/
def Obligations.CancelOrderCancels : Prop :=
  ∀ (l : Link) (id : Byte) (s : State), s.Admits l (.cancelOrder id) →
    (id = 0 → exec (.cancelOrder l id) s = .next (s.answerOn l 0x91 [0x11])) ∧
    (id ≠ 0 → (∀ o ∈ s.queue, o.id = id.toNat → o.origin ≠ l) →
      exec (.cancelOrder l id) s = .next (s.answerOn l 0x91 [0x2A])) ∧
    ∀ o ∈ s.queue, id ≠ 0 → o.id = id.toNat → o.origin = l → (s.queue.map (·.id)).Nodup →
      (o.state = .turning → exec (.cancelOrder l id) s = .next (s.answerOn l 0x91 [0x20])) ∧
      (o.state ≠ .turning → exec (.cancelOrder l id) s = .next
        ((((if o.state = .waitGrant then s.removeClaim .vend else s).endOrder o .cancelled .cancelled).orderLeft
          none).claimHead.settle.answerOn l 0x91 [0x00])) ∧
      (o.state ≠ .turning → s.queue = [o] → s.payout.state = .done →
        ∃ t : State, exec (.cancelOrder l id) s = .next (t.answerOn l 0x91 [0x00]) ∧ t.queue = [] ∧ t.sels = s.sels ∧
          t.lifetime = s.lifetime ∧ t.interim = s.interim ∧ t.credit.cash = s.credit.cash ∧
          (o.funding = .cash → t.credit.reserved = s.credit.reserved - o.price) ∧
          (o.funding ≠ .cash → t.credit.reserved = s.credit.reserved) ∧
          (o.state = .waitGrant → ∀ c ∈ t.claims, c.owner ≠ .vend) ∧
          (∀ c, s.card = some c → c.closing = none → t.card = some (if o.funding = .card then
            { c with reserved := c.reserved - o.price, idleEnd := some (s.now + s.settings.sales.cardIdle * 1000) } else c)) ∧
          (∀ m : Link, m = o.origin ∨ o.cardLink = some m → s.links[m].notices.length < 16 →
            ⟨.vendResult o.id o.price .cancelled, none⟩ ∈ t.links[m].notices))

/-- SET_PRICE: BAD_ARG for a code above 79 or a price above 60,000, PROTECTED for a protected selection without service
privilege; otherwise the price is replaced (R76). PROTECT sets the flag, BAD_ARG outside its ranges (R185). CLEAR_HOLD: BAD_ARG
for a code above 79, a kind outside the five, or SAFETY; STATE for NO_MOTOR with a spiral not fitted; otherwise the kind is
absent and SOLD_OUT returns the no-drop run to 0 (R78). Nothing else changes but the SELECTION_HOLD of a removed hold (R74). -/
def Obligations.PriceProtectAndHoldRequests : Prop :=
  (∀ (l : Link) (sel : Byte) (s : State),
     (∀ price : Word16, s.Admits l (.setPrice sel price) →
       (80 ≤ sel.toNat ∨ 60000 < price.toNat → exec (.setPrice l sel price) s = .next (s.answerOn l 0xC0 [0x11])) ∧
       ∀ i : Sel, sel.toNat = i.val → price.toNat ≤ 60000 →
         (s.settings.sels[i].protect = true → s.holder ≠ some l →
           exec (.setPrice l sel price) s = .next (s.answerOn l 0xC0 [0x2B])) ∧
         (s.settings.sels[i].protect = false ∨ s.holder = some l →
           exec (.setPrice l sel price) s = .next
             ((s.modSelSettings i fun e => { e with price := price.toNat }).answerOn l 0xC0 [0x00]))) ∧
     (∀ value : Byte, s.Admits l (.protect sel value) →
       (80 ≤ sel.toNat ∨ 1 < value.toNat → exec (.protect l sel value) s = .next (s.answerOn l 0xD4 [0x11])) ∧
       ∀ i : Sel, sel.toNat = i.val → value.toNat ≤ 1 → exec (.protect l sel value) s = .next
         ((s.modSelSettings i fun e => { e with protect := decide (value = 1) }).answerOn l 0xD4 [0x00]))) ∧
  (∀ (l : Link) (sel kind : Byte) (s : State), s.Admits l (.clearHold sel kind) →
     (80 ≤ sel.toNat ∨ 5 ≤ kind.toNat ∨ kind = 3 →
       exec (.clearHold l sel kind) s = .next (s.answerOn l 0xD2 [0x11])) ∧
     ∀ i : Sel, sel.toNat = i.val → kind.toNat < 5 → kind ≠ 3 →
       (kind = 4 → s.allFitted (s.spiralsOf i) = false →
         exec (.clearHold l sel kind) s = .next (s.answerOn l 0xD2 [0x20])) ∧
       (kind ≠ 4 ∨ s.allFitted (s.spiralsOf i) = true →
         ∃ t : State, exec (.clearHold l sel kind) s = .next (t.answerOn l 0xD2 [0x00]) ∧
           t.sels = s.sels.set i { s.sels[i] with
             holds := s.sels[i].holds &&& ~~~ (1#5 <<< kind.toNat),
             noDropRun := if kind = 1 then 0 else s.sels[i].noDropRun } ∧
           { t with sels := s.sels, links := s.links } = s ∧
           (s.sels[i].holds.getLsbD kind.toNat = false → t.links = s.links) ∧
           (∀ k : HoldKind, k.code = kind.toNat → s.sels[i].holds.getLsbD kind.toNat = true →
             t.links = (s.broadcast (.selectionHold i t.sels[i].holds k)).links)))

/-- SET_SELECTION: its refusals in order; otherwise price, spirals, domain, perishable and stock are as given, NO_MOTOR is
absent, DISABLED is present exactly when available is no, stock 0 adds SOLD_OUT, a changed stock above 0 or UNTRACKED removes it
and returns the no-drop run to 0, and in HELD a changed perishable flag has SAFETY agree with it; protect, the sale count and the other
selections' settings stay (R77, R152). Stated for an empty
queue; the queued orders that a SAFETY hold cancels are the subject of R88. A stock of 0 given again adds SOLD_OUT: log 34. -/
def Obligations.SetSelectionReplacesEntry : Prop :=
  ∀ (l : Link) (a : SelectionArgs) (s : State), s.Admits l (.setSelection a) →
    let ranged : Prop := a.sel.toNat < 80 ∧ a.price.toNat ≤ 60000 ∧ a.domain.toNat ≤ 3 ∧
      (a.stock.toNat ≤ 63 ∨ a.stock = 0xFF) ∧ a.pair.toNat ≤ 1 ∧ a.perishable.toNat ≤ 1 ∧ a.available.toNat ≤ 1 ∧
      a.column.toNat ≤ 9 ∧ (a.pair = 1 → a.column.toNat ≤ 8)
    (¬ ranged → exec (.setSelection l a) s = .next (s.answerOn l 0xC1 [0x11])) ∧
    ∀ (i : Sel) (c : Fin 10), ranged → a.sel.toNat = i.val → a.column.toNat = c.val →
      let spirals : Spirals := { first := posAt (rowOf i) c, pair := decide (a.pair = 1) }
      let stock : Option Nat := if a.stock = 0xFF then none else some a.stock.toNat
      (s.allFitted spirals = false → exec (.setSelection l a) s = .next (s.answerOn l 0xC1 [0x11])) ∧
      (s.allFitted spirals = true → s.settings.sels[i].protect = true → spirals ≠ s.spiralsOf i →
        exec (.setSelection l a) s = .next (s.answerOn l 0xC1 [0x2B])) ∧
      (s.allFitted spirals = true → (s.settings.sels[i].protect = false ∨ spirals = s.spiralsOf i) → s.queue = [] →
        s.payout.isEmpty = false →
        let entry : SelSettings :=
          { s.settings.sels[i] with
            price := a.price.toNat, column := c, pair := decide (a.pair = 1),
            domain := ⟨a.domain.toNat % 4, Nat.mod_lt _ (by decide)⟩, perishable := decide (a.perishable = 1) }
        ∃ t : State, exec (.setSelection l a) s = .next (t.answerOn l 0xC1 [0x00]) ∧
          t.settings = { s.settings with sels := s.settings.sels.set i entry } ∧
          t.sels[i].stock = stock ∧ t.sels[i].saleCount = s.sels[i].saleCount ∧
          t.sels[i].holds.getLsbD 4 = false ∧ t.sels[i].holds.getLsbD 0 = decide (a.available = 0) ∧
          t.sels[i].holds.getLsbD 2 = s.sels[i].holds.getLsbD 2 ∧
          t.sels[i].holds.getLsbD 3 = (
            if s.safety.state = .held ∧ s.settings.sels[i].perishable ≠ entry.perishable then
              entry.perishable && decide (s.settings.zones[rowOf i] = .chilled)
            else s.sels[i].holds.getLsbD 3) ∧
          t.sels[i].holds.getLsbD 1 = (if stock = some 0 then true
            else if stock = s.sels[i].stock then s.sels[i].holds.getLsbD 1 else false) ∧
          t.sels[i].noDropRun = (if stock = some 0 ∨ stock = s.sels[i].stock then s.sels[i].noDropRun else 0) ∧
          (∀ j : Sel, j ≠ i → t.sels[j] = s.sels[j]) ∧
          { t with settings := s.settings, sels := s.sels, links := s.links } = s)


/-! ## Spiral drive (spec/05) -/

/-- In START a cam that leaves home is LEFT and the phase is RUN once every cam is; in RUN a LEFT cam that homes is HOMED and
the last one completes the turn with a short-brake of 100 ms; in every phase the cam's switch follows. The open check at 100 ms
lets the turn go on at or above 0.10 A for each driven spiral; below it the order fails NO_MOTOR and its positions leave the
fitted map. The start limit brakes with NO_START pending, the jam current and the turn limit with JAM. Once a drop has been seen
no failure is recorded (R98, R99, R100, R101, R103; operands: log 17, 24; times: log 3; a cam that homes in START: log 18; a current
at or below the jam threshold: log 31). -/
def Obligations.TurnRunsByCamsAndLimits : Prop :=
  ∀ (s : State) (sv : Service), s.power = .running → s.drive.service = some sv →
    s.drive.cams.length = sv.spirals.positions.length →
    let braked (u : State) (cause : Option PendingFailure) : State := { u with drive := { u.drive with
      phase := .brake, cams := [], pending := if sv.dropSeen then none else cause,
      brake := some { spirals := sv.spirals, till := u.now + 100, owned := true } } }
    let moved (q : Pos) (a b : CamState) : List CamState :=
      List.zipWith (fun p c => if p = q ∧ c = a then b else c) sv.spirals.positions s.drive.cams
    let switched (q : Pos) (away : Bool) : State := { s with cams := s.cams.set q away }
    let driven := (s.drive.cams.filter fun c => decide (c ≠ .homed)).length
    let turning : Prop := s.drive.phase = .start ∨ s.drive.phase = .run
    (∀ q, s.drive.phase = .start → exec (.camLeavesHome q) s = .next { switched q true with drive := { s.drive with
      cams := moved q .away .left,
      phase := if ∀ c ∈ moved q .away .left, c = .left then .run else .start } }) ∧
    (∀ q, s.drive.phase ≠ .start → exec (.camLeavesHome q) s = .next (switched q true)) ∧
    (∀ q, s.drive.phase = .run → exec (.camHomes q) s = .next
      (let u : State := { switched q false with drive := { s.drive with cams := moved q .left .homed } }
       if ∀ c ∈ moved q .left .homed, c = .homed then braked u none else u)) ∧
    (∀ q, s.drive.phase ≠ .run → exec (.camHomes q) s = .next (switched q false)) ∧
    (∀ current, turning → s.drive.openChecked = false →
      let u : State := { s.advance (s.drive.turnStart + 100) with drive := { s.drive with openChecked := true } }
      exec (.openCheck current) s = .next
        (if 100 * driven ≤ current then u
         else if sv.dropSeen then braked u none
         else State.driveReport .failed .noMotor { u with
           fitted := sv.spirals.positions.foldl (fun m (q : Pos) => m.set q false) s.fitted })) ∧
    (s.drive.phase = .start → .away ∈ s.drive.cams →
      exec .startLimit s = .next (braked (s.advance (s.drive.turnStart + 500)) (some .noStart))) ∧
    (∀ current, turning → 1500 * driven < current → exec (.jamCurrent current) s = .next (braked s (some .jam))) ∧
    (∀ current, turning → current ≤ 1500 * driven → exec (.jamCurrent current) s = .next s) ∧
    (turning → exec .turnLimit s = .next (braked (s.advance (s.drive.turnStart + 4000)) (some .jam)))

/-- The drive's report of an outcome, in any queue: the VEND claim is released, the drive record is IDLE without an order, a NO_DROP
opens the late-drop record for 10 s, the order ends as R89 gives, the tests after an order follow and the head claims. For an order
alone in the queue: selection, counters in both copies, and the money of the credit and of a card record that is not being closed are
those of its end, and VEND_RESULT goes to the origin and the card link (R105, R104, R89; settling: log 13). -/
def Obligations.OutcomeIsReported : Prop :=
  (∀ (s : State) (sv : Service) (st : OrderState) (r : EndReason), s.drive.service = some sv → (s.queue.map (·.id)).Nodup →
    ∀ o ∈ s.queue, o.id = sv.order →
      let w := s.removeClaim .vend
      let record : LateDrop :=
        { id := o.id, price := o.price, funding := o.funding, origin := o.origin, expiry := s.now + 10000 }
      let u : State := { w with
        drive := { w.drive with phase := .idle, service := none, cams := [], pending := none, brake := none,
                                openChecked := false, windowEnd := none },
        lateDrop := if r = .noDrop then some record else w.lateDrop }
      s.driveReport st r = ((u.endOrder o st r).orderLeft
        (if o.funding = .cash ∧ st = .done then some o.origin else none)).claimHead.settle) ∧
  ∀ (s : State) (sv : Service) (o : Order) (st : OrderState) (r : EndReason),
    s.drive.service = some sv → s.queue = [o] → o.id = sv.order → s.payout.state = .done →
    let t := s.driveReport st r
    let e := s.endOrder o st r
    t.queue = [] ∧ (∀ c ∈ t.claims, c.owner ≠ .vend) ∧
    t.drive.phase = .idle ∧ t.drive.service = none ∧ t.drive.pending = none ∧ t.drive.brake = none ∧
    t.lateDrop = (if r = .noDrop then
      some { id := o.id, price := o.price, funding := o.funding, origin := o.origin, expiry := s.now + 10000 }
      else s.lateDrop) ∧
    t.sels = e.sels ∧ t.lifetime = e.lifetime ∧ t.interim = e.interim ∧ t.credit.cash = e.credit.cash ∧
    t.credit.reserved = e.credit.reserved ∧ t.fitted = s.fitted ∧ t.tubes = s.tubes ∧ t.settings = s.settings ∧
    ((∀ c, s.card = some c → c.closing = none) → t.card = e.card) ∧
    (∀ m : Link, m = o.origin ∨ o.cardLink = some m → s.links[m].notices.length < 16 →
      ⟨.vendResult o.id o.price (if st = .done then .done else r), none⟩ ∈ t.links[m].notices)

/-- BRAKE_END: the brake of an order ends it DONE after a drop, with its pending failure, or DONE in blind mode, and otherwise
opens the drop window of 1,500 ms; after a brake that SOFT_RESTART left, a waiting first turn or a waiting probe step begins, or
the phase is IDLE. DROP_WINDOW_CLOSE: while turns done are no greater than the captured extra turns the next turn begins, else
the order fails NO_DROP (R101, R102, R103, R107, R97, R109, R111; log 3, 18). -/
def Obligations.BrakeAndWindowEnd : Prop :=
  ∀ s : State, s.power = .running →
    let turned (u : State) (sv : Service) : State :=
      let cams := sv.spirals.positions.map fun p => if u.cams[p] then CamState.left else CamState.away
      { u with
        queue := u.queue.map fun o => if o.id = sv.order then { o with turns := o.turns + 1 } else o,
        drive := { u.drive with
          phase := if ∀ c ∈ cams, c = .left then .run else .start, service := some sv, cams := cams, pending := none,
          brake := none, turnStart := u.now, openChecked := false, windowEnd := none } }
    (∀ b, s.drive.brake = some b →
      let u : State := { s.advance b.till with drive := { s.drive with brake := none } }
      (∀ sv, s.drive.phase = .brake → s.drive.service = some sv → b.owned = true → exec .brakeEnd s = .next
        (if sv.dropSeen then u.driveReport .done .done
         else match s.drive.pending with
           | some .noStart => u.driveReport .failed .noStart
           | some .jam => u.driveReport .failed .jam
           | none => if s.blind then u.driveReport .done .done
             else { u with drive := { u.drive with phase := .window, windowEnd := some (u.now + 1500) } })) ∧
      (∀ sv, s.drive.phase = .brake → s.drive.service = some sv → b.owned = false →
        exec .brakeEnd s = .next (turned u sv)) ∧
      (s.drive.phase = .brake → s.drive.service = none → ∃ t : State, exec .brakeEnd s = .next t ∧
        t.drive.phase = .idle ∧ t.drive.brake = none ∧ { t with drive := s.drive } = s.advance b.till) ∧
      (s.drive.phase = .probing → exec .brakeEnd s = .next
        { u with drive := { u.drive with stepEnd := some (u.now + 50) } })) ∧
    (∀ x sv o, s.drive.windowEnd = some x → s.drive.service = some sv → s.drive.phase = .window → o ∈ s.queue →
      o.id = sv.order → (s.queue.map (·.id)).Nodup →
      exec .dropWindowClose s = .next
        (if o.turns ≤ sv.profile.extra then turned (s.advance x) sv else (s.advance x).driveReport .failed .noDrop))

/-- DROP belongs to the order the drive serves if it did not begin before its first energizing: drop seen is set, and in WINDOW
the order is DONE; with no order it is a late drop of an open record, which raises LATE_DROPS and closes; otherwise, and in
blind mode, it is ignored. LATE_DROP_EXPIRY closes the record. DROP_FAULT makes the sensor BLIND and an order in WINDOW DONE;
DROP_OK makes it NORMAL (R103, R104, R106, R107; operands: log 17; the expiry's time: log 3). -/
def Obligations.DropsAreAssigned : Prop :=
  ∀ s : State, s.power = .running →
    (s.blind = true → ∀ early, exec (.drop early) s = .next s) ∧
    (∀ sv, s.blind = false → s.drive.service = some sv →
      exec (.drop true) s = .next s ∧
      (let waits : Prop := s.drive.phase = .brake ∧ ∃ b, s.drive.brake = some b ∧ b.owned = false
       let u : State := { s with drive := { s.drive with service := some { sv with dropSeen := true } } }
       (waits → exec (.drop false) s = .next s) ∧
       (¬ waits → exec (.drop false) s = .next
         (if s.drive.phase = .window then u.driveReport .done .done else u)))) ∧
    (∀ early r, s.blind = false → s.drive.service = none → s.lateDrop = some r → exec (.drop early) s = .next
      { (s.count .lateDrops r.price).deliver (.lateDrop r.id r.price r.funding) [r.origin] with lateDrop := none }) ∧
    (∀ early, s.blind = false → s.drive.service = none → s.lateDrop = none → exec (.drop early) s = .next s) ∧
    (∀ r, s.lateDrop = some r → exec .lateDropExpiry s = .next { s.advance r.expiry with lateDrop := none }) ∧
    (s.blind = false → exec .dropFault s = .next
      (let u := State.broadcast (.system .dropFault 0) { s with blind := true }
       if s.drive.phase = .window then u.driveReport .done .done else u)) ∧
    (s.blind = true → exec .dropOk s = .next (State.broadcast (.system .dropOk 0) { s with blind := false }))

/-- PROBE_STEP_END: the position joins the result at 0.10 A or more, and the next position's step of 50 ms begins, whatever is
queued; after position 79 the result replaces the fitted map, every selection holds NO_MOTOR exactly when a spiral of it is not
fitted, the PROBE claim is gone, the phase is IDLE, PROBE_DONE goes out with the number of positions fitted, and a head that waited
claims. PROBE_MOTORS: BUSY while a probe runs or the queue
holds an order; otherwise the probe claims, and granted, starts at position 0 (R108, R109, R110, R82; the clock: log 3; settling: log 13). -/
def Obligations.ProbeStepsAndEnds : Prop :=
  (∀ (l : Link) (s : State), s.Admits l .probeMotors → s.queue ≠ [] →
    exec (.probeMotors l) s = .next (s.answerOn l 0xD7 [0x28])) ∧
  ∀ s : State, s.power = .running →
    (∀ (q : Pos) m x current, s.drive.phase = .probing → s.drive.probePos = some q → s.drive.probeResult = some m →
      s.drive.stepEnd = some x →
      let found := if 100 ≤ current then m.set q true else m
      let u := s.advance x
      let mapped (t : State) : Prop := t.fitted = found ∧ t.drive.phase = .idle ∧
        t.drive.probePos = none ∧ t.drive.probeResult = none ∧ (∀ c ∈ t.claims, c.owner ≠ .probe) ∧
        (∀ i : Sel, t.sels[i] = { s.sels[i] with holds :=
          if ∀ p ∈ (s.spiralsOf i).positions, found[p] = true then s.sels[i].holds &&& 0b01111
          else s.sels[i].holds ||| 0b10000 }) ∧
        t.settings = s.settings ∧ t.credit = s.credit ∧ t.tubes = s.tubes ∧ t.lifetime = s.lifetime
      let told (w : State) : State := State.broadcast (.system .probeDone (found.toList.filter id).length) w
      (∀ next : Pos, next.val = q.val + 1 → exec (.probeStepEnd current) s = .next { u with drive := { s.drive with
        probePos := some next, probeResult := some found, stepEnd := some (u.now + 50) } }) ∧
      (q.val = 79 → s.queue = [] → s.payout.isEmpty = false →
        ∃ t : State, exec (.probeStepEnd current) s = .next (told t) ∧ mapped t) ∧
      (q.val = 79 → (∀ c ∈ s.claims, c.owner ≠ .vend) →
        ∃ t : State, exec (.probeStepEnd current) s = .next (told t).claimHead.settle ∧ mapped t ∧ t.queue = s.queue)) ∧
    (∀ l, s.Admits l .probeMotors → s.queue = [] → s.payout.isEmpty = false →
      let probing : Prop := s.drive.phase = .probeWait ∨ s.drive.phase = .probing
      (probing → exec (.probeMotors l) s = .next (s.answerOn l 0xD7 [0x28])) ∧
      (¬ probing → (∀ c ∈ s.claims, c.granted = true ∧ c.owner ≠ .probe) →
        let size := s.settings.budget.probe
        let claim : Claim := { owner := .probe, size := size, promoted := false, granted := false, placedAt := s.now }
        let waiting : Drive := { s.drive with
          phase := .probeWait, probePos := none, probeResult := some (Vector.replicate 80 false), stepEnd := none }
        let probing0 : Drive := { waiting with
          phase := .probing, probePos := some 0,
          stepEnd := if s.drive.brake.isSome then none else some (s.now + 50) }
        exec (.probeMotors l) s = .next (State.answerOn l 0xD7 [0x01]
          (if grantedTotal s.claims + size ≤ s.budget then
            { s with claims := s.claims ++ [{ claim with granted := true }], drive := probing0 }
          else { s with claims := s.claims ++ [claim], drive := waiting }))))

/-! ## Card sessions (spec/06) -/

/-- CARD_OPEN: BAD_ARG outside 1…60,000, STATE outside IDLE; otherwise the session is CARD and its record opens with the idle
timer. CARD_CLOSE: STATE outside CARD and on another link than the card link; otherwise, as at CARD_IDLE_EXPIRY with its own
reason, the CARD orders in WAIT_APPROVAL or READY are cancelled CARD_CLOSED, and the session ends with CARD_END and the session IDLE
where no CARD order is left, and is CARD_CLOSING with the record kept while one is in WAIT_GRANT or TURNING; it ends when the last of
them leaves. The head claims, and the events a grant leaves are settled (R113, R114, R121, R122, R123, R124; the idle timer's
time: log 3; settling: log 13). -/
def Obligations.CardSessionsOpenAndClose : Prop :=
  ∀ (l : Link) (s : State),
    (∀ funds : Word16, s.Admits l (.cardOpen funds) →
      let n := funds.toNat
      let record : CardSession :=
        { link := l, funds := n, reserved := 0, idleEnd := some (s.now + s.settings.sales.cardIdle * 1000),
          closing := none }
      (n = 0 ∨ 60000 < n → exec (.cardOpen l funds) s = .next (s.answerOn l 0xA0 [0x11])) ∧
      (1 ≤ n → n ≤ 60000 → s.credit.session ≠ .idle →
        exec (.cardOpen l funds) s = .next (s.answerOn l 0xA0 [0x20])) ∧
      (1 ≤ n → n ≤ 60000 → s.credit.session = .idle → exec (.cardOpen l funds) s = .next
        (State.answerOn l 0xA0 ([0x00] ++ le16 n ++ [byte s.settings.sales.cardIdle])
          (State.activity { State.broadcast (.credit .card s.credit.cash .session)
            { s with credit := { s.credit with session := .card } } with card := some record }).settle))) ∧
    (let closed (u : State) (c : CardSession) (r : CloseReason) : State :=
       State.broadcast (.credit .idle s.credit.cash .session)
         { State.deliver (.cardEnd c.link c.funds r) [c.link] u with
           card := none, credit := { s.credit with session := .idle } }
     let closing (u : State) (c : CardSession) (r : CloseReason) : State :=
       State.broadcast (.credit .cardClosing s.credit.cash .session)
         { u with card := some { c with idleEnd := none, closing := some r },
                  credit := { s.credit with session := .cardClosing } }
     let turning (o : Order) : Prop := s.queue = [o] ∧ o.funding = .card ∧ o.state = .turning
     let waits (o : Order) : Bool :=
       decide (o.funding = .card ∧ (o.state = .waitApproval ∨ o.state = .ready))
     let stays : Prop := ∃ o ∈ s.queue, o.funding = .card ∧ waits o = false
     let cancelled (u : State) : State :=
       (s.queue.filter waits).foldl (fun x o => x.endOrder o .cancelled .cardClosed) u
     let less (c : CardSession) : CardSession :=
       { c with reserved := c.reserved - ((s.queue.filter waits).map (·.price)).sum }
     (s.Admits l .cardClose → s.credit.session ≠ .card ∨ (∀ c, s.card = some c → c.link ≠ l) →
       exec (.cardClose l) s = .next (s.answerOn l 0xA2 [0x20])) ∧
     (∀ c, s.Admits l .cardClose → s.Quiet → s.credit.session = .card → s.card = some c → c.link = l →
       (s.queue = [] → exec (.cardClose l) s = .next
         ((closed s c .closed).answerOn l 0xA2 ([0x00, 0] ++ le16 c.funds))) ∧
       (∀ o, turning o → exec (.cardClose l) s = .next
         ((closing s c .closed).answerOn l 0xA2 ([0x00, 3] ++ le16 c.funds)))) ∧
     (∀ c x, s.power = .running → s.Quiet → s.card = some c → c.idleEnd = some x →
       (s.queue = [] → exec .cardIdleExpiry s = .next (closed (s.advance x) c .expired)) ∧
       (∀ o, turning o → exec .cardIdleExpiry s = .next (closing (s.advance x) c .expired))) ∧
     (∀ c, s.Admits l .cardClose → s.credit.session = .card → s.card = some c → c.link = l → (s.queue.map (·.id)).Nodup →
       (¬ stays → exec (.cardClose l) s = .next
         ((closed (cancelled s) c .closed).claimHead.settle.answerOn l 0xA2 ([0x00, 0] ++ le16 c.funds))) ∧
       (stays → exec (.cardClose l) s = .next
         ((closing (cancelled s) (less c) .closed).claimHead.settle.answerOn l 0xA2 ([0x00, 3] ++ le16 c.funds)))) ∧
     (∀ c x, s.power = .running → s.card = some c → c.idleEnd = some x → (s.queue.map (·.id)).Nodup →
       (¬ stays → exec .cardIdleExpiry s = .next (closed (cancelled (s.advance x)) c .expired).claimHead.settle) ∧
       (stays → exec .cardIdleExpiry s = .next (closing (cancelled (s.advance x)) (less c) .expired).claimHead.settle)) ∧
     (∀ c r, s.credit.session = .cardClosing → s.card = some c → c.closing = some r →
       ((∀ o ∈ s.queue, o.funding ≠ .card) → s.afterOrders none = (closed s c r).claimHead) ∧
       ((∃ o ∈ s.queue, o.funding = .card) → s.afterOrders none = s.claimHead) ∧
       (∀ sv o st why, s.drive.service = some sv → s.queue = [o] → o.id = sv.order → o.funding = .card →
         s.payout.state = .done →
         let t := s.driveReport st why
         t.card = none ∧ t.credit = { s.credit with session := .idle } ∧
         (s.links[c.link].notices.length ≤ 12 →
           ⟨.cardEnd c.link (if st = .done then c.funds - o.price else c.funds) r, none⟩ ∈ t.links[c.link].notices))))

/-- CARD_APPROVE: BAD_ARG for id 0 or a decision neither DENY nor APPROVE; for an order of this card link STATE unless it waits
for approval, READY at an approval, CANCELLED at a denial; TOO_LATE for a lapsed id of this link, else NOT_FOUND. At its
APPROVAL_DEADLINE an order is cancelled and its id lapses. A cancelled order releases its card reservation, keeps the funds and
starts the idle timer again when it was the last; the other orders stay, and the head claims (R115 to R121; the deadline's time:
log 3; settling: log 13). -/
def Obligations.CardOrdersAreAnswered : Prop :=
  ∀ (l : Link) (s : State),
    (∀ id decision : Byte, s.Admits l (.cardApprove id decision) →
      let mine (o : Order) : Prop := o.id = id.toNat ∧ o.funding = .card ∧ o.cardLink = some l
      (id = 0 ∨ 1 < decision.toNat → exec (.cardApprove l id decision) s = .next (s.answerOn l 0xA1 [0x11])) ∧
      (id ≠ 0 → decision.toNat ≤ 1 →
        ((∀ o ∈ s.queue, ¬ mine o) → (∃ e ∈ s.lapsed, e.id = id.toNat ∧ e.link = l) →
          exec (.cardApprove l id decision) s = .next (s.answerOn l 0xA1 [0x29])) ∧
        ((∀ o ∈ s.queue, ¬ mine o) → (¬ ∃ e ∈ s.lapsed, e.id = id.toNat ∧ e.link = l) →
          exec (.cardApprove l id decision) s = .next (s.answerOn l 0xA1 [0x2A])) ∧
        ∀ o ∈ s.queue, mine o → (s.queue.map (·.id)).Nodup →
          (o.state ≠ .waitApproval → exec (.cardApprove l id decision) s = .next (s.answerOn l 0xA1 [0x20])) ∧
          (o.state = .waitApproval → decision = 1 → exec (.cardApprove l id decision) s = .next (State.answerOn l 0xA1 [0x00]
            (State.stateNotice o .ready { s with queue := s.queue.map fun x =>
              if x.id = o.id then { x with state := .ready, deadline := none } else x }).claimHead.settle)))) ∧
    (let lapses (o : Order) : List Lapsed :=
       (if s.lapsed.length < 4 then s.lapsed else s.lapsed.drop 1) ++ [{ id := o.id, link := l }]
     (∀ o c, s.queue = [o] → o.funding = .card → o.state = .waitApproval → s.card = some c → c.closing = none →
       s.credit.session = .card → s.payout.state = .done →
       let released (now : Nat) : CardSession :=
         { c with reserved := c.reserved - o.price, idleEnd := some (now + s.settings.sales.cardIdle * 1000) }
       let cancelled (t : State) (now : Nat) : Prop := t.queue = [] ∧ t.card = some (released now) ∧
         t.credit = s.credit ∧ t.sels = s.sels ∧ t.lifetime = s.lifetime ∧ t.settings = s.settings
       (∀ id : Byte, s.Admits l (.cardApprove id 0) → id ≠ 0 → o.id = id.toNat → o.cardLink = some l →
         ∃ t : State, exec (.cardApprove l id 0) s = .next (t.answerOn l 0xA1 [0x00]) ∧ cancelled t s.now ∧
           t.lapsed = s.lapsed) ∧
       (∀ x, s.power = .running → o.deadline = some x → o.cardLink = some l →
         ∃ t : State, exec (.approvalDeadline o.id) s = .next t ∧ cancelled t (s.advance x).now ∧
           t.lapsed = lapses o)) ∧
     (∀ o ∈ s.queue, ∀ c, (s.queue.map (·.id)).Nodup → o.funding = .card → o.state = .waitApproval → o.cardLink = some l →
       s.card = some c → c.closing = none → s.credit.session = .card →
       (∀ id : Byte, s.Admits l (.cardApprove id 0) → id ≠ 0 → o.id = id.toNat →
         exec (.cardApprove l id 0) s = .next
           ((s.endOrder o .cancelled .denied).claimHead.settle.answerOn l 0xA1 [0x00])) ∧
       (∀ x, s.power = .running → o.deadline = some x → exec (.approvalDeadline o.id) s = .next
         (State.claimHead { (s.advance x).endOrder o .cancelled .approvalTimeout with lapsed := lapses o }).settle)))

/-! ## Cooling (spec/07) -/

/-- The conversion of a reading is the table's value plus the slope's share rounded to the nearest tenth, a tie away from zero,
and a good reading gives −50.2…116.2 °C. The filter moves a quarter of a gap of 4 or more, truncated toward zero, else one
tenth; it comes strictly closer to the reading until it is there. EVAP_SAMPLE judges its reading: 3 bad ones in a row declare
the fault, 10 good ones end it and seed the filter, a good reading of a VALID sensor feeds the filter; a changed status sends
its notice; in DEFROST a VALID temperature at or above the terminate temperature ends the defrost (R127 to R131, R141; the
sampling clock: log 21). -/
def Obligations.SensorsAreSampledAndFiltered : Prop :=
  (∀ a : BitVec 12,
     let table : List Int :=
       [1250, 900, 700, 560, 450, 360, 280, 210, 150, 90, 30, -30, -95, -165, -250, -360, -550]
     let i := a.toNat / 256
     let share := (table.getD (i + 1) 0 - table.getD i 0) * (a.toNat % 256 : Nat)
     let x := convert a - table.getD i 0
     (256 * x - share).natAbs ≤ 128 ∧ ((256 * x - share).natAbs = 128 → share.natAbs < (256 * x).natAbs) ∧
     (64 ≤ a.toNat → a.toNat ≤ 4031 → -502 ≤ convert a ∧ convert a ≤ 1162)) ∧
  (∀ f t : Int,
     filterStep f t = (if 4 ≤ t - f ∨ t - f ≤ -4 then f + (t - f).tdiv 4 else f + (t - f).sign) ∧
     (f ≠ t → (filterStep f t - t).natAbs < (f - t).natAbs)) ∧
  (∀ (a : BitVec 12) (s : State), s.power = .running → s.Quiet → (∀ c ∈ s.claims, c.granted = true) →
     let old := s.cooling.evap
     let good : Prop := 64 ≤ a.toNat ∧ a.toNat ≤ 4031
     let new : Sensor :=
       if good then
         if old.fault = true then
           if old.count < 9 then { old with raw := some a, count := old.count + 1 }
           else { fault := false, count := 0, filtered := some (convert a), raw := some a }
         else { fault := false, count := 0, raw := some a,
                filtered := some (match old.filtered with
                  | none => convert a
                  | some f => filterStep f (convert a)) }
       else if old.fault = true then { old with raw := some a, count := 0 }
       else if old.count < 2 then { old with raw := some a, count := old.count + 1 }
       else { old with raw := some a, fault := true, count := 0 }
     let u := s.advance s.cooling.nextEvap
     let v : State := { u with cooling := { u.cooling with evap := new, nextEvap := u.now + 1000 } }
     let w := if new.fault = old.fault then v
       else v.broadcast (.cooling (if new.fault then .sensorFault .evap a.toNat else .sensorOk .evap (convert a)))
     let reached (t : Int) : Prop := s.cooling.state = .defrost ∧ new.fault = false ∧ new.filtered = some t ∧
       s.settings.cooling.terminate ≤ t
     ((¬ ∃ t, reached t) → exec (.evapSample a) s = .next w) ∧
     (∀ t, reached t → exec (.evapSample a) s = .next (State.broadcast (.cooling (.defrostEnd .temp t))
       { w with
         cooling := { w.cooling with
           state := .drain, heat := false, accumulated := 0, defrostKind := none, defrostStart := none,
           drainStart := some u.now },
         claims := s.claims.filter fun c => decide (c.owner ≠ .heater) })))

/-- ZONE_SAMPLE, where the safety monitor takes the sample without a new hold and without leaving SETBACK: in CLEAR with no
excursion, or with one in NORMAL; in TIMING where it recovers or counts on; in HELD. With the sensor's status unchanged and no defrost
forced or requested: the start test in IDLE places the COMPRESSOR claim, a temperature at or below the cut-out in WAIT_GRANT withdraws
it, the stop test in RUNNING opens the relay, for a defrost where one is due. A forced or requested defrost with the relay closed
begins at the first sample at which 60 s of the run have passed. A fault declared moves IDLE and MIN_OFF to FALLBACK, WAIT_GRANT to
FB_WAIT with its claim, RUNNING to FB_ON with the relay closed, and no other state; a fault ended, in TIMING or HELD, moves FALLBACK
back. The record of the safety monitor is that of its own rules (R130, R135, R136, R139, R143, R149; log 3, 21). -/
def Obligations.ZoneSampleActsOnCompressor : Prop :=
  ∀ (a : BitVec 12) (s : State), s.power = .running → s.Quiet →
    let u := s.advance s.cooling.nextZone
    let old := s.cooling.zone
    let new := old.judge a
    let v : State := { u with cooling := { u.cooling with zone := new, nextZone := u.now + 1000 } }
    let w := v.safetySample
    let cutOut := s.cooling.effective
    let cutIn := s.cooling.effective + s.settings.cooling.hysteresis
    let limit := s.settings.cooling.safetyLimit
    let rested : Prop := 180000 ≤ u.now ∧ ∀ x, s.cooling.lastStop = some x → x + 180000 ≤ u.now
    let others := s.claims.filter fun c => decide (c.owner ≠ .compressor)
    let interval := s.settings.cooling.intervalH * 3600000
    let must : Prop := s.cooling.requested = true ∨ interval + 3600000 ≤ u.cooling.accumulated
    let shown : Option Int := if new.fault then none else new.filtered
    let hot : Prop := new.fault = true ∨ ∃ t, shown = some t ∧ limit < t
    let cold : Prop := ∃ t, shown = some t ∧ t ≤ limit - 5
    let counted := if s.cooling.state = .defrost ∨ s.cooling.state = .drain then s.safety.excursion
      else s.safety.excursion + 1
    let taken : Prop :=
      (s.safety.state = .clear ∧ (¬ hot ∨ (s.cooling.mode = .normal ∧ (s.safety.check = false ∨ shown = none)))) ∨
      (s.safety.state = .timing ∧ (cold ∨ counted < s.settings.cooling.safetyDelay * 60)) ∨ s.safety.state = .held
    taken →
    (¬ must → old.fault = false → new.fault = false →
      (new.filtered = none → exec (.zoneSample a) s = .next w) ∧
      ∀ t, new.filtered = some t →
      (s.cooling.state = .idle → (t < cutIn ∨ ¬ rested) → exec (.zoneSample a) s = .next w) ∧
      (s.cooling.state = .idle → cutIn ≤ t → rested → (∀ c ∈ s.claims, c.granted = true ∧ c.owner ≠ .compressor) →
        let start := s.settings.budget.start
        let claim : Claim := { owner := .compressor, size := start, promoted := false, granted := false, placedAt := u.now }
        exec (.zoneSample a) s = .next
          (if grantedTotal s.claims + start ≤ s.budget then
            { w with
              cooling := { v.cooling with state := .running, runStart := some u.now, resized := false, pullDown := false },
              claims := s.claims ++ [{ claim with granted := true }] }
          else { w with cooling := { v.cooling with state := .waitGrant }, claims := s.claims ++ [claim] })) ∧
      (s.cooling.state = .waitGrant → cutOut < t → exec (.zoneSample a) s = .next w) ∧
      (s.cooling.state = .waitGrant → t ≤ cutOut → (∀ c ∈ others, c.granted = true) → exec (.zoneSample a) s = .next
        { w with cooling := { v.cooling with state := .idle }, claims := others }) ∧
      (∀ r, s.cooling.state = .running → s.cooling.runStart = some r →
        (cutOut < t ∨ u.now < r + 60000 → exec (.zoneSample a) s = .next w) ∧
        (t ≤ cutOut → r + 60000 ≤ u.now → (∀ c ∈ others, c.granted = true) →
          (u.cooling.accumulated < interval → exec (.zoneSample a) s = .next
            { w with cooling := { v.cooling with state := .minOff, runStart := none, lastStop := some u.now },
                     claims := others }) ∧
          (interval ≤ u.cooling.accumulated →
            ∃ x : State, exec (.zoneSample a) s = .next x ∧ x.cooling.state = .defrost ∧
              x.cooling.defrostStart = some u.now ∧ x.cooling.defrostKind = some s.settings.cooling.defrostType ∧
              x.cooling.runStart = none ∧ x.cooling.lastStop = some u.now ∧
              x.cooling.accumulated = u.cooling.accumulated ∧ x.safety = w.safety ∧
              ∀ c ∈ x.claims, c.owner ≠ .compressor))) ∧
      (s.cooling.state ≠ .idle → s.cooling.state ≠ .waitGrant → s.cooling.state ≠ .running →
        exec (.zoneSample a) s = .next w)) ∧
    (∀ r, must → old.fault = new.fault → s.cooling.runStart = some r →
      (s.cooling.state = .running ∨ (s.cooling.state = .fallback ∧ s.cooling.fallback = some .fbOn)) →
      (u.now < r + 60000 → exec (.zoneSample a) s = .next w) ∧
      (r + 60000 ≤ u.now → ∃ x : State, exec (.zoneSample a) s = .next x ∧ x.cooling.state = .defrost ∧
        x.cooling.fallback = none ∧ x.cooling.defrostStart = some u.now ∧
        x.cooling.defrostKind = some s.settings.cooling.defrostType ∧ x.cooling.requested = false ∧
        x.cooling.runStart = none ∧ x.cooling.lastStop = some u.now ∧
        x.cooling.accumulated = u.cooling.accumulated ∧ x.safety = w.safety ∧ ∀ c ∈ x.claims, c.owner ≠ .compressor)) ∧
    (¬ must → old.fault = false → new.fault = true →
      ∃ x : State, exec (.zoneSample a) s = .next x ∧ x.safety = w.safety ∧ x.cooling.zone = new ∧
        x.safety.state = (if s.safety.state = .clear then .timing else s.safety.state) ∧
        (s.cooling.state = .waitGrant →
          x.cooling.state = .fallback ∧ x.cooling.fallback = some .fbWait ∧ x.claims = s.claims) ∧
        (s.cooling.state = .running → x.cooling.state = .fallback ∧ x.cooling.fallback = some .fbOn ∧
          x.cooling.fbStart = some u.now ∧ x.cooling.runStart = s.cooling.runStart ∧ x.claims = s.claims) ∧
        (s.cooling.state = .idle ∨ s.cooling.state = .minOff → x.cooling.state = .fallback ∧
          (u.now < max 180000 ((s.cooling.lastStop.map (· + 900000)).getD 0) →
            x.cooling.fallback = some .fbOff ∧ x.claims = s.claims)) ∧
        (s.cooling.state = .off ∨ s.cooling.state = .startDelay ∨ s.cooling.state = .defrost ∨ s.cooling.state = .drain →
          x.cooling.state = s.cooling.state ∧ x.claims = s.claims)) ∧
    (∀ t, ¬ must → s.safety.state ≠ .clear → old.fault = true → new.fault = false → new.filtered = some t → cutOut < t →
      t < cutIn → s.cooling.state = .fallback →
      ∃ x : State, exec (.zoneSample a) s = .next x ∧ x.safety = w.safety ∧ x.cooling.zone = new ∧
        x.cooling.fallback = none ∧
        (s.cooling.fallback = some .fbOff → x.cooling.state = .idle ∧ x.claims = s.claims) ∧
        (s.cooling.fallback = some .fbWait → x.cooling.state = .idle ∧ ∀ c ∈ x.claims, c.owner ≠ .compressor) ∧
        (s.cooling.fallback = some .fbOn → x.cooling.state = .running ∧ x.cooling.runStart = s.cooling.runStart ∧
          x.claims = s.claims))

/-- The compressor's and the setback timer's ends: START_DELAY gives IDLE, or FALLBACK in a zone fault; 2 s into a run the claim
is cut to the run size; MIN_OFF ends 180 s after the stop; PULL_DOWN is sent once in a run; FB_OFF ends with a claim, granted
where it fits; FB_ON ends with the relay open in FB_OFF, or with a defrost that is due or requested; the setback timer's end is
SETBACK in CLEAR, its notice, and the LIGHTING claim given up, and otherwise a new start of the timer. Nothing else changes
(R132, R133, R134, R136, R137, R143, R144, R161; log 3, 15; the setpoint's bound of 12.0 °C: log 22). -/
def Obligations.CoolingTimersRun : Prop :=
  ∀ s : State, s.power = .running → s.Quiet → (∀ c ∈ s.claims, c.granted = true) →
    let without (o : Owner) : List Claim := s.claims.filter fun c => decide (c.owner ≠ o)
    (s.cooling.state = .startDelay →
      (s.cooling.zone.fault = false → exec .startDelayEnd s = .next
        (let u := s.advance 180000
         { u with cooling := { u.cooling with state := .idle, fallback := none, fbStart := none } })) ∧
      (s.cooling.zone.fault = true → ∃ x : State, exec .startDelayEnd s = .next x ∧ x.cooling.state = .fallback ∧
        x.cooling.fallback ≠ none)) ∧
    (∀ r, s.cooling.runStart = some r → s.cooling.resized = false → (s.claims.map (·.owner)).Nodup →
      exec .compressorResize s = .next
        (let u := s.advance (r + 2000)
         { u with
           cooling := { u.cooling with resized := true },
           claims := s.claims.map fun c =>
             if c.owner = .compressor ∧ s.settings.budget.run < c.size then { c with size := s.settings.budget.run } else c })) ∧
    (∀ x, s.cooling.state = .minOff → s.cooling.lastStop = some x → exec .minOffEnd s = .next
      (let u := s.advance (x + 180000)
       { u with cooling := { u.cooling with state := .idle } })) ∧
    (∀ r, s.cooling.runStart = some r → s.cooling.pullDown = false → exec .pullDown s = .next
      (let u := s.advance (r + 7200000)
       State.broadcast (.cooling (.pullDown s.cooling.zone.filtered))
         { u with cooling := { u.cooling with pullDown := true } })) ∧
    (∀ r, s.cooling.runStart = some r → s.cooling.pullDown = true → exec .pullDown s = .next s) ∧
    (s.cooling.state = .fallback → s.cooling.fallback = some .fbOff → (∀ c ∈ s.claims, c.owner ≠ .compressor) →
      exec .fbOffEnd s = .next
        (let u := s.advance (max 180000 ((s.cooling.lastStop.map (· + 900000)).getD 0))
         let start := s.settings.budget.start
         let claim : Claim := { owner := .compressor, size := start, promoted := false, granted := false, placedAt := u.now }
         if grantedTotal s.claims + start ≤ s.budget then
           { u with
             cooling := { u.cooling with
               fallback := some .fbOn, fbStart := some u.now, runStart := some u.now, resized := false, pullDown := false },
             claims := s.claims ++ [{ claim with granted := true }] }
         else { u with cooling := { u.cooling with fallback := some .fbWait }, claims := s.claims ++ [claim] })) ∧
    (∀ x, s.cooling.state = .fallback → s.cooling.fallback = some .fbOn → s.cooling.fbStart = some x →
      let u := s.advance (x + 600000)
      let due : Prop := s.settings.cooling.intervalH * 3600000 ≤ u.cooling.accumulated ∨ s.cooling.requested = true
      (¬ due → exec .fbOnEnd s = .next
        { u with
          cooling := { u.cooling with fallback := some .fbOff, fbStart := none, runStart := none, lastStop := some u.now },
          claims := without .compressor }) ∧
      (due → ∃ y : State, exec .fbOnEnd s = .next y ∧ y.cooling.state = .defrost ∧ y.cooling.fallback = none ∧
        y.cooling.runStart = none ∧ y.cooling.lastStop = some u.now ∧ y.cooling.requested = false ∧
        ∀ c ∈ y.claims, c.owner ≠ .compressor)) ∧
    (∀ x, s.cooling.setbackEnd = some x →
      let u := s.advance x
      let c := s.settings.cooling
      let setpoint := min (min (c.base + c.setbackOff) (c.safetyLimit - 10 - c.hysteresis)) 120
      (s.safety.state = .clear → exec .setbackExpiry s = .next (State.broadcast (.cooling (.setback setpoint))
        { u with cooling := { u.cooling with mode := .setback, setbackEnd := none, effective := setpoint },
                 claims := without .lighting })) ∧
      (s.safety.state ≠ .clear → exec .setbackExpiry s = .next
        { u with cooling := { u.cooling with setbackEnd := some (u.now + c.setbackDelay * 60000) } }))

/-- A defrost begins with its start, the type in force, its notice and, for HEATER, a claim whose grant switches HEAT on.
FORCE_DEFROST: STATE with cooling off, BUSY in DEFROST and DRAIN; where one is requested already nothing changes; otherwise it
begins at once with the relay open, and with the relay closed if 60 s of the run have passed, and else waits for a zone sample.
DEFROST_FORCED begins it where 60 s of the run had passed when the run time reached the interval plus 60 min. DEFROST_TIME_END
ends it by TIME with HEAT off and the run time 0; DRAIN ends in IDLE, or in FALLBACK in a zone fault (R139, R140, R141, R142;
log 3, 29). -/
def Obligations.DefrostBeginsAndEnds : Prop :=
  ∀ s : State, s.Quiet → (∀ c ∈ s.claims, c.granted = true ∧ (s.cooling.state = .defrost ∨ c.owner ≠ .heater)) →
    let kind := s.settings.cooling.defrostType
    let without (o : Owner) : List Claim := s.claims.filter fun c => decide (c.owner ≠ o)
    let begun (v : State) : State :=
      let w := State.broadcast (.cooling (.defrostStart kind (if s.cooling.evap.fault then 0 else s.cooling.evap.filtered.getD 0)))
        { v with cooling := { v.cooling with
          state := .defrost, fallback := none, fbStart := none, defrostKind := some kind, defrostStart := some v.now,
          requested := false } }
      let size := s.settings.budget.heater
      let claim : Claim := { owner := .heater, size := size, promoted := false, granted := false, placedAt := v.now }
      if kind = .offCycle then w
      else if grantedTotal v.claims + size ≤ s.budget then
        { w with cooling := { w.cooling with heat := true }, claims := v.claims ++ [{ claim with granted := true }] }
      else { w with claims := v.claims ++ [claim] }
    let stopped (v : State) : State :=
      { v with cooling := { v.cooling with runStart := none, lastStop := some v.now }, claims := without .compressor }
    let open' : Prop := s.cooling.state = .idle ∨ s.cooling.state = .minOff ∨ s.cooling.state = .startDelay ∨
      (s.cooling.state = .fallback ∧ s.cooling.fallback = some .fbOff)
    let closed : Prop := s.cooling.state = .running ∨ (s.cooling.state = .fallback ∧ s.cooling.fallback = some .fbOn)
    (∀ l, s.Admits l .forceDefrost →
      (s.settings.cooling.enable = false → exec (.forceDefrost l) s = .next (s.answerOn l 0xD9 [0x20])) ∧
      (s.settings.cooling.enable = true → s.cooling.state = .defrost ∨ s.cooling.state = .drain →
        exec (.forceDefrost l) s = .next (s.answerOn l 0xD9 [0x28])) ∧
      (s.settings.cooling.enable = true → s.cooling.state ≠ .defrost → s.cooling.state ≠ .drain →
        s.cooling.requested = true → exec (.forceDefrost l) s = .next (s.answerOn l 0xD9 [0x00])) ∧
      (s.settings.cooling.enable = true → s.cooling.requested = false → open' →
        exec (.forceDefrost l) s = .next ((begun s).answerOn l 0xD9 [0x00])) ∧
      (∀ r, s.settings.cooling.enable = true → s.cooling.requested = false → closed → s.cooling.runStart = some r →
        r + 60000 ≤ s.now → exec (.forceDefrost l) s = .next ((begun (stopped s)).answerOn l 0xD9 [0x00])) ∧
      (∀ r, s.settings.cooling.enable = true → s.cooling.requested = false → closed → s.cooling.runStart = some r →
        s.now < r + 60000 → exec (.forceDefrost l) s = .next
          (({ s with cooling := { s.cooling with requested := true } } : State).answerOn l 0xD9 [0x00]))) ∧
    (s.power = .running →
      (∀ r, closed → s.cooling.runStart = some r → s.settings.cooling.intervalH ≤ 24 →
        let u := s.advance (s.now + (s.settings.cooling.intervalH * 3600000 + 3600000 - s.cooling.accumulated))
        let reached := u.now - (u.cooling.accumulated - (s.settings.cooling.intervalH * 3600000 + 3600000))
        exec .defrostForced s = .next (if r + 60000 ≤ reached then begun (stopped u) else u)) ∧
      (∀ x, s.cooling.state = .defrost → s.cooling.defrostStart = some x → exec .defrostTimeEnd s = .next
        (let u := s.advance (x + 1800000)
         State.broadcast
           (.cooling (.defrostEnd .time (if s.cooling.evap.fault then 0 else s.cooling.evap.filtered.getD 0)))
           { u with
             cooling := { u.cooling with
               state := .drain, heat := false, accumulated := 0, defrostKind := none, defrostStart := none,
               drainStart := some u.now },
             claims := without .heater })) ∧
      (∀ x, s.cooling.state = .drain → s.cooling.drainStart = some x →
        (s.cooling.zone.fault = false → exec .drainEnd s = .next
          (let u := s.advance (x + 300000)
           { u with cooling := { u.cooling with state := .idle, drainStart := none, fallback := none, fbStart := none } })) ∧
        (s.cooling.zone.fault = true → ∃ y : State, exec .drainEnd s = .next y ∧ y.cooling.state = .fallback ∧
          y.cooling.drainStart = none ∧ y.cooling.fallback ≠ none)))

/-- SET_COOLING: BAD_ARG for a value outside its range or a cut-in above the safety limit less 1.0 °C; otherwise the settings
and row zones are replaced whole and the effective setpoint is computed again; without a change of cooling enable, a hold or a
defrost to begin nothing else changes. Cooling switched off opens the relay, gives up both claims, is OFF and HELD; switched on
it is IDLE or FALLBACK. In HELD each row whose zone changes has its SAFETY holds in agreement. In both modes the setpoint is at
least the base and at most 12.0 °C, and its cut-in at most the limit less 1.0 °C. A defrost that stands forced or requested with the
relay closed goes on waiting; one that a lower interval makes forced begins at once with the relay open, and with it closed if 60 s of
the run have passed (R145, R132, R133, R134, R139, R151, R152; the setpoint in SETBACK: log 22). -/
def Obligations.SetCoolingReplacesSettings : Prop :=
  (∀ (c : CoolingSettings) (m : CoolMode), c.base + c.hysteresis ≤ c.safetyLimit - 10 → 0 ≤ c.setbackOff → c.base ≤ 120 →
     c.base ≤ setpointOf c m ∧ setpointOf c m + c.hysteresis ≤ c.safetyLimit - 10 ∧ setpointOf c m ≤ 120) ∧
  (∀ (l : Link) (a : CoolingArgs) (s : State), s.Admits l (.setCooling a) →
     let ranged : Prop := 0 ≤ a.base.toInt ∧ a.base.toInt ≤ 120 ∧ 5 ≤ a.hysteresis.toInt ∧ a.hysteresis.toInt ≤ 50 ∧
       a.defrostType.toNat ≤ 1 ∧ 1 ≤ a.interval.toNat ∧ a.interval.toNat ≤ 24 ∧ 20 ≤ a.terminate.toInt ∧
       a.terminate.toInt ≤ 150 ∧ 30 ≤ a.safetyLimit.toInt ∧ a.safetyLimit.toInt ≤ 150 ∧ 5 ≤ a.safetyDelay.toNat ∧
       a.safetyDelay.toNat ≤ 120 ∧ 0 ≤ a.setbackOff.toInt ∧ a.setbackOff.toInt ≤ 80 ∧ 5 ≤ a.setbackDelay.toNat ∧
       a.setbackDelay.toNat ≤ 240 ∧ a.enable.toNat ≤ 1
     let fits : Prop := a.base.toInt + a.hysteresis.toInt ≤ a.safetyLimit.toInt - 10
     let c : CoolingSettings :=
       { base := a.base.toInt, hysteresis := a.hysteresis.toInt,
         defrostType := if a.defrostType = 1 then .offCycle else .heater, intervalH := a.interval.toNat,
         terminate := a.terminate.toInt, safetyLimit := a.safetyLimit.toInt, safetyDelay := a.safetyDelay.toNat,
         setbackOff := a.setbackOff.toInt, setbackDelay := a.setbackDelay.toNat, enable := decide (a.enable = 1) }
     let chilled (i : Sel) : Bool := a.zones.getLsbD (i.val / 10)
     let replaced (settings : Settings) : Prop := settings.cooling = c ∧
       (∀ r : Row, settings.zones[r] = if a.zones.getLsbD r.val then .chilled else .ambient) ∧
       { settings with cooling := s.settings.cooling, zones := s.settings.zones } = s.settings
     let setpoint := if s.cooling.mode = .normal then c.base
       else min (min (c.base + c.setbackOff) (c.safetyLimit - 10 - c.hysteresis)) 120
     let was := s.settings.cooling.enable
     let mustBefore : Prop := s.cooling.requested = true ∨
       s.settings.cooling.intervalH * 3600000 + 3600000 ≤ s.cooling.accumulated
     let closed : Prop :=
       s.cooling.state = .running ∨ (s.cooling.state = .fallback ∧ s.cooling.fallback = some .fbOn)
     (¬ (ranged ∧ fits) → exec (.setCooling l a) s = .next (s.answerOn l 0xC4 [0x11])) ∧
     (ranged → fits → ∃ t : State, exec (.setCooling l a) s = .next (t.answerOn l 0xC4 [0x00]) ∧ replaced t.settings ∧
       (c.enable = was → s.safety.state ≠ .held → s.cooling.requested = false → s.Quiet →
         s.cooling.accumulated < c.intervalH * 3600000 + 3600000 →
         t.cooling = { s.cooling with effective := setpoint } ∧
           { t with settings := s.settings, cooling := s.cooling } = s) ∧
       (c.enable = was → s.safety.state ≠ .held → s.Quiet → mustBefore → closed →
         t.cooling = { s.cooling with effective := setpoint } ∧
           { t with settings := s.settings, cooling := s.cooling } = s) ∧
       (c.enable = was → s.safety.state ≠ .held → s.Quiet → ¬ mustBefore → c.intervalH * 3600000 + 3600000 ≤ s.cooling.accumulated →
         (s.cooling.state = .idle ∨ s.cooling.state = .minOff ∨ s.cooling.state = .startDelay →
           t.cooling.state = .defrost ∧ t.cooling.defrostStart = some s.now ∧ t.cooling.defrostKind = some c.defrostType) ∧
         (∀ x, closed → s.cooling.runStart = some x →
           (x + 60000 ≤ s.now → t.cooling.state = .defrost ∧ t.cooling.defrostStart = some s.now ∧
             t.cooling.defrostKind = some c.defrostType ∧ t.cooling.runStart = none ∧
             t.cooling.lastStop = some s.now ∧ ∀ k ∈ t.claims, k.owner ≠ .compressor) ∧
           (s.now < x + 60000 → t.cooling = { s.cooling with effective := setpoint } ∧ t.claims = s.claims))) ∧
       (was = true → c.enable = false → t.cooling.state = .off ∧ t.cooling.runStart = none ∧ t.cooling.heat = false ∧
         t.cooling.requested = false ∧ t.cooling.accumulated = s.cooling.accumulated ∧
         (∀ x ∈ t.claims, x.owner ≠ .compressor ∧ x.owner ≠ .heater) ∧ t.safety.state = .held ∧
         t.safety.cause = (if s.safety.state = .held then s.safety.cause else some .coolingOff) ∧
         (s.safety.state ≠ .held → ∀ i : Sel, t.sels[i].holds =
           if s.settings.sels[i].perishable = true ∧ chilled i = true then s.sels[i].holds ||| 0b01000
           else s.sels[i].holds)) ∧
       (was = false → c.enable = true → s.cooling.requested = false →
         s.cooling.accumulated < c.intervalH * 3600000 + 3600000 → t.safety.state = s.safety.state ∧
           t.cooling.state = (if s.cooling.zone.fault then .fallback else .idle)) ∧
       (s.safety.state = .held → ∀ i : Sel, t.sels[i].holds =
         if (s.settings.zones[rowOf i] = .chilled) = (chilled i = true) then s.sels[i].holds
         else if s.settings.sels[i].perishable = true ∧ chilled i = true then s.sels[i].holds ||| 0b01000
         else s.sels[i].holds &&& 0b10111)))

/-! ## Safety (spec/08) -/

/-- The safety monitor at a zone sample, by its state, and SAFETY_RELEASE. An excursion is a zone fault or a VALID temperature
above the limit; recovered is a VALID temperature at or below the limit less 0.5 °C. From CLEAR an excursion is TIMING, but a
first temperature above the limit after power-on is HELD at once; in TIMING recovery is CLEAR, a sample outside DEFROST and
DRAIN adds 1 s, and the safety delay reached is HELD; HELD keeps the peak. Placed, the hold has its cause and peak, SAFETY on
every perishable selection of a CHILLED row and on no other that had none, and none of their orders left waiting but TEST.
Released, no selection holds SAFETY and nothing but notices changes (R148, R149, R150, R153, R155; absent temperatures: log 29). -/
def Obligations.SafetyTimesHoldsAndReleases : Prop :=
  ∀ s : State,
    let z := s.cooling.zone
    let limit := s.settings.cooling.safetyLimit
    let shown : Option Int := if z.fault then none else z.filtered
    let hot : Prop := z.fault = true ∨ ∃ t, shown = some t ∧ limit < t
    let cold : Prop := ∃ t, shown = some t ∧ t ≤ limit - 5
    let cause : SafetyCause := if z.fault then .sensor else .temp
    let raised : Option Int := match s.safety.peak, shown with
      | p, none => p
      | none, some t => some t
      | some p, some t => some (max p t)
    let counted := if s.cooling.state = .defrost ∨ s.cooling.state = .drain then s.safety.excursion
      else s.safety.excursion + 1
    let delay := s.settings.cooling.safetyDelay * 60
    let mustHold (i : Sel) : Prop := s.settings.sels[i].perishable = true ∧ s.settings.zones[rowOf i] = .chilled
    let placed (why : SafetyCause) (peak : Option Int) : Prop :=
      let t := s.safetySample
      t.safety = { state := .held, excursion := 0, cause := some why, peak := peak, check := false } ∧
      t.cooling.mode = .normal ∧ t.settings = s.settings ∧
      (∀ i : Sel, mustHold i → t.sels[i].holds = s.sels[i].holds ||| 0b01000) ∧
      (∀ i : Sel, ¬ mustHold i → t.sels[i] = s.sels[i]) ∧
      ((s.queue.map (·.id)).Nodup → ∀ o ∈ t.queue, mustHold o.sel → s.sels[o.sel].holds.getLsbD 3 = false →
        o.funding = .test ∨ o.state = .turning)
    (s.safety.state = .clear →
      (s.safety.check = false ∨ shown = none →
        (hot → s.cooling.mode = .normal → s.safetySample = State.broadcast (.safety (some cause) (shown.getD 0) .timing)
          { s with safety := { s.safety with state := .timing, excursion := 0, peak := shown, check := false } }) ∧
        (¬ hot → s.safetySample = s)) ∧
      (∀ t, s.safety.check = true → shown = some t →
        (t ≤ limit → s.safetySample = { s with safety := { s.safety with check := false } }) ∧
        (limit < t → placed .powerUp (some t)))) ∧
    (s.safety.state = .timing →
      (cold → s.safetySample = State.broadcast (.safety none (s.safety.peak.getD 0) .clear)
        { s with safety := { s.safety with state := .clear, excursion := 0, peak := none } }) ∧
      (¬ cold → counted < delay →
        s.safetySample = { s with safety := { s.safety with excursion := counted, peak := raised } }) ∧
      (¬ cold → delay ≤ counted → placed cause raised)) ∧
    (s.safety.state = .held → s.safetySample = { s with safety := { s.safety with peak := raised } }) ∧
    (∀ l, s.Admits l .safetyRelease →
      (s.safety.state ≠ .held ∨ s.settings.cooling.enable = false ∨ ¬ cold →
        exec (.safetyRelease l) s = .next (s.answerOn l 0xD3 [0x20])) ∧
      (s.safety.state = .held → s.settings.cooling.enable = true → cold →
        ∃ t : State, exec (.safetyRelease l) s = .next (t.answerOn l 0xD3 [0x00]) ∧
          t.safety = { s.safety with state := .clear, excursion := 0, cause := none, peak := none } ∧
          (∀ i : Sel, t.sels[i] = { s.sels[i] with holds := s.sels[i].holds &&& 0b10111 }) ∧
          { t with safety := s.safety, sels := s.sels, links := s.links } = s))

/-! ## Load budget (spec/09) -/

/-- A grant pass: the waiting claims stand promoted first, then by class, then by arrival; the pass grants a front part of that
order, each claim within the budget, and stops at the first that does not fit; no claim's size, owner or place changes. At their
times a COMPRESSOR claim is promoted and a pass made; a change of the supply sets the budget, sends SUPPLY and has a pass made.
SET_BUDGET: BAD_ARG outside its ranges or where a claim would not fit; otherwise the settings are replaced, waiting claims take
their new sizes, granted ones keep theirs, and a pass is made (R158, R159, R162, R163, R165; log 3, 13, 31). -/
def Obligations.ArbiterGrantsInOrder : Prop :=
  let rank (c : Claim) : Nat := if c.promoted then 0 else match c.owner with
    | .vend => 1 | .probe => 1 | .payout => 2 | .compressor => 3 | .heater => 4 | .lighting => 5
  (∀ cs : List Claim, (grantOrder cs).Pairwise (fun c d => rank c ≤ rank d) ∧
     ∀ k, (grantOrder cs).filter (fun c => decide (rank c = k)) =
       cs.filter fun c => !c.granted && decide (rank c = k)) ∧
  (∀ s : State, (s.claims.map (·.owner)).Nodup →
     let order := grantOrder s.claims
     ∃ k, k ≤ order.length ∧
       s.grantPass.claims = (s.claims.map fun c => if c ∈ order.take k then { c with granted := true } else c) ∧
       (0 < k → grantedTotal s.grantPass.claims ≤ s.budget) ∧
       (∀ c, order[k]? = some c → s.budget < grantedTotal s.grantPass.claims + c.size) ∧
       (∀ c ∈ s.claims, c.granted = true → c ∈ s.grantPass.claims)) ∧
  (∀ s : State, s.power = .running →
     (∀ c, s.claimOf .compressor = some c → c.granted = false → c.promoted = false →
       exec .compressorPromotion s = .next
         (let u := s.advance (c.placedAt + 60000)
          State.settle (State.grantPass { u with
            claims := s.claims.map fun x => if x.owner = .compressor then { x with promoted := true } else x }))) ∧
     (∀ level, s.supply = .good → 70 ≤ level → level < 85 → exec (.supplyLow level) s = .next
       (State.settle (State.grantPass (State.broadcast (.supply level s.settings.budget.low false)
         { s with supply := .low })))) ∧
     (∀ level, s.supply = .low → 90 < level → exec (.supplyGood level) s = .next
       (State.settle (State.grantPass (State.broadcast (.supply level s.settings.budget.normal true)
         { s with supply := .good })))) ∧
     (∀ level, s.supply ≠ .good → exec (.supplyLow level) s = .next s) ∧
     (∀ level, s.supply ≠ .low → exec (.supplyGood level) s = .next s)) ∧
  (∀ (l : Link) (a : BudgetArgs) (s : State), s.Admits l (.setBudget a) →
     let b : BudgetSettings :=
       { normal := a.normal.toNat, low := a.low.toNat, motor := a.motor.toNat, probe := a.probe.toNat,
         payout := a.payout.toNat, start := a.start.toNat, run := a.run.toNat, heater := a.heater.toNat,
         lighting := a.lighting.toNat }
     let size (n : Nat) : Prop := 1 ≤ n ∧ n ≤ 160
     let good : Prop := 1 ≤ b.motor ∧ b.motor ≤ 80 ∧ size b.probe ∧ size b.payout ∧ size b.start ∧ size b.run ∧
       size b.heater ∧ size b.lighting ∧ 45 ≤ b.normal ∧ b.normal ≤ 160 ∧ b.low ≤ b.normal ∧ b.run ≤ b.start ∧
       (∀ n ∈ [2 * b.motor, b.probe, b.payout, b.start, b.heater, b.lighting], n ≤ b.normal) ∧
       b.start + b.lighting ≤ b.normal
     let inForce (o : Owner) : Nat := match o with
       | .vend => b.motor * (match s.queue with | h :: _ => h.spirals.positions.length | [] => 1)
       | .payout => b.payout
       | .compressor => b.start
       | .heater => b.heater
       | .lighting => b.lighting
       | .probe => b.probe
     (¬ good → exec (.setBudget l a) s = .next (s.answerOn l 0xC5 [0x11])) ∧
     (good → exec (.setBudget l a) s = .next (State.answerOn l 0xC5 [0x00] (State.settle (State.grantPass { s with
       settings := { s.settings with budget := b },
       claims := s.claims.map fun c => if c.granted then c else { c with size := inForce c.owner } })))))

/-! ## Audit, service and the store (spec/11) -/

/-- Both copies of an audit counter rise by the amount, modulo 2^32, and no other counter moves (R188). READ_AUDIT gives the
eight counters of a group of a copy, BAD_ARG outside 0 and 1; CLEAR_INTERIM zeroes the interim copies alone (R189). READ_TUBES
and READ_COOLING report their records in the layouts of 10.9 (R47, R146). None changes anything else but the backlog; an elapsed
time above 65,534 s is reported as a free value (log 9); whole seconds and minutes: log 11; 0 setback seconds while the timer is
stopped: log 46; the width of the baseline count: log 42. -/
def Obligations.CountersRiseAndReportsRead : Prop :=
  (∀ (c : Counter) (n : Nat) (s : State),
     { s.count c n with lifetime := s.lifetime, interim := s.interim } = s ∧
     ∀ d : Counter,
       (s.count c n).lifetime[d.code] =
         (if d = c then s.lifetime[d.code] + BitVec.ofNat 32 n else s.lifetime[d.code]) ∧
       (s.count c n).interim[d.code] =
         (if d = c then s.interim[d.code] + BitVec.ofNat 32 n else s.interim[d.code])) ∧
  (∀ (l : Link) (copy group : Byte) (s : State), s.Admits l (.readAudit copy group) →
     (1 < copy.toNat ∨ 1 < group.toNat → exec (.readAudit l copy group) s = .next (s.answerOn l 0xB0 [0x11])) ∧
     (copy.toNat ≤ 1 → group.toNat ≤ 1 →
       let eight : List Counter :=
         if group = 0 then [.cashIn, .toTubes, .toCashbox, .cashSales, .cardSales, .remoteSales, .paidOut, .payoutSurplus]
         else [.tubeFill, .tubeDispense, .adjustUp, .adjustDown, .coinsLost, .lateDrops, .vends, .vendFails]
       let value (c : Counter) : Nat := ((if copy = 0 then s.lifetime else s.interim)[c.code]).toNat
       exec (.readAudit l copy group) s =
         .next (s.answerOn l 0xB0 ([0x00, copy, group] ++ eight.flatMap fun c => le32 (value c))))) ∧
  (∀ (l : Link) (s : State), s.Admits l .clearInterim → exec (.clearInterim l) s =
     .next (({ s with interim := Vector.replicate 16 0 } : State).answerOn l 0xB3 [0x00])) ∧
  (∀ (l : Link) (s : State), s.Admits l .readTubes →
     let takes (i : TubeNo) : Bool := decide (s.settings.tubes[i].enabled = true ∧ s.tubes[i].full = false ∧
       s.tubes[i].count + (s.coin.inFlight.filter fun c => decide (c.route = some i)).length < s.settings.tubes[i].fullMark)
     let entry (i : TubeNo) : List Byte :=
       let c := s.settings.tubes[i]
       [byte (bits [c.enabled, s.tubes[i].full, s.tubes[i].low, takes i])] ++ le16 c.value ++
         [byte c.capacity, byte c.fullMark, byte c.lowMark, byte c.floor, byte s.tubes[i].count]
     let baseline : List Byte := match s.coin.baseline with
       | some b => le16 b.count.toNat
       | none => [0xFF, 0xFF]
     let lockout : Byte := match s.coin.lockoutEnd with
       | some t => byte ((t - s.now + 999) / 1000)
       | none => 0
     exec (.readTubes l) s = .next (s.answerOn l 0xB1
       ([0x00] ++ entry 0 ++ entry 1 ++ entry 2 ++ entry 3 ++ entry 4 ++ [byte (bit s.exactChange)] ++
         baseline ++ [byte s.coin.inFlight.length, byte s.coin.rejectCount, lockout]))) ∧
  (∀ (l : Link) (s : State), s.Admits l .readCooling →
     let c := s.cooling
     let k := s.settings.cooling
     let sensor (x : Sensor) : List Byte :=
       (match x.filtered with | some t => temp16 t | none => [0x00, 0x80]) ++ [byte (bit x.fault)]
     let raw (x : Sensor) : List Byte := match x.raw with | some a => le16 a.toNat | none => [0xFF, 0xFF]
     let since : Option Nat := match c.runStart, c.lastStop with
       | some t, _ => some (s.now - t)
       | none, some t => some (s.now - t)
       | none, none => none
     let beyond : Bool := match since with | some d => decide (65534 < d / 1000) | none => false
     let left (t : Nat) : Nat := (t - s.now + 999) / 1000
     let phase : Byte := match c.fallback with
       | some p => byte p.code
       | none => 0xFF
     let setbackLeft : Nat := match c.setbackEnd with
       | some t => left t
       | none => 0
     let defrostLeft : Nat := match c.state, c.defrostStart, c.drainStart with
       | .defrost, some t, _ => left (t + 1800000)
       | .drain, _, some t => left (t + 300000)
       | _, _, _ => 0
     let elapsed : List Byte := match since with
       | none => [0xFF, 0xFF]
       | some d => if beyond then le16 (Config.freeSeconds s.free).toNat else le16 (d / 1000)
     exec (.readCooling l) s = .next (({ s with free := if beyond then s.free + 1 else s.free } : State).answerOn l 0xB2
       ([0x00, byte c.state.code, phase, byte c.mode.code] ++
         temp16 c.effective ++ temp16 (c.effective + k.hysteresis) ++ temp16 c.effective ++
         sensor c.zone ++ sensor c.evap ++ raw c.zone ++ raw c.evap ++ le16 (c.accumulated / 60000) ++
         elapsed ++
         [byte (bits [decide (k.intervalH * 3600000 ≤ c.accumulated),
           decide (k.intervalH * 3600000 + 3600000 ≤ c.accumulated), c.requested, s.heatPin, s.fanPin, s.compPin,
           s.out0Pin, c.pullDown])] ++
         le16 defrostLeft ++
         le16 setbackLeft ++
         (temp16 k.base ++ temp16 k.hysteresis ++ [byte k.defrostType.code, byte k.intervalH] ++ temp16 k.terminate ++
           temp16 k.safetyLimit ++ [byte k.safetyDelay] ++ temp16 k.setbackOff ++
           [byte k.setbackDelay, byte (bit k.enable),
            byte (bits (s.settings.zones.toList.map fun z => decide (z = .chilled)))]))))

/-- SERVICE_ENTER: DOOR_CLOSED, BUSY for another holder, OK for the holder, else the link becomes the holder with its notice. A
leave has no holder left. A DOOR_CHANGE to the level the door has is none; a change sends its DOOR notice first, restarts the
setback timer in NORMAL, and with the door closed no link holds privilege, with it open no order but TEST or TURNING is queued
and a session payout holds; with an empty queue and no payout held nothing else happens but the release's notice and, from
SETBACK, the return to NORMAL with its notice and the LIGHTING claim. SET_OUTPUTS sets the two outputs, BAD_ARG above 3.
SOFT_RESTART leaves no order, session of card or remote, return pending, lockout or holder, and keeps cash, coins in flight,
counts, holds, the fitted map, safety and settings; with an empty queue and no payout held it sends CARD_END, SERVICE and
SYSTEM(RESTART) in that order, and the credit tests follow (R124, R144, R182 to R184, R186, R187, R66, R87; log 14). -/
def Obligations.ServiceDoorAndRestart : Prop :=
  ∀ (l : Link) (s : State),
    let dispensing : Prop := s.payout.kind = some .dispense ∧ s.payout.state ≠ .done
    let released (u : State) : State := match s.holder with
      | some h => State.broadcast (.service h false) { u with holder := none }
      | none => u
    (s.Admits l .serviceEnter →
      (s.doorOpen = false → exec (.serviceEnter l) s = .next (s.answerOn l 0xD0 [0x27])) ∧
      (∀ h, s.doorOpen = true → s.holder = some h → h ≠ l →
        exec (.serviceEnter l) s = .next (s.answerOn l 0xD0 [0x28])) ∧
      (s.doorOpen = true → s.holder = some l → exec (.serviceEnter l) s = .next (s.answerOn l 0xD0 [0x00])) ∧
      (s.doorOpen = true → s.holder = none → exec (.serviceEnter l) s = .next
        ((State.broadcast (.service l true) { s with holder := some l }).answerOn l 0xD0 [0x00]))) ∧
    (s.Admits l .serviceLeave → s.Quiet →
      (∃ t : State, exec (.serviceLeave l) s = .next (t.answerOn l 0xD1 [0x00]) ∧ t.holder = none ∧
        ((s.queue.map (·.id)).Nodup → ∀ o ∈ t.queue, o.funding = .test → o.state = .turning)) ∧
      ((∀ o ∈ s.queue, o.funding = .test → o.state = .turning) → ¬ dispensing → exec (.serviceLeave l) s = .next
        ((State.broadcast (.service l false) { s with holder := none }).answerOn l 0xD1 [0x00]))) ∧
    (s.power = .running → (s.queue.map (·.id)).Nodup → ∀ isOpen : Bool,
      (s.doorOpen = isOpen → exec (.doorChange isOpen) s = .next s) ∧
      (s.doorOpen ≠ isOpen → ∃ t : State, exec (.doorChange isOpen) s = .next t ∧ t.doorOpen = isOpen ∧
        t.cooling.mode = .normal ∧ t.cooling.setbackEnd = some (s.now + s.settings.cooling.setbackDelay * 60000) ∧
        t.settings = s.settings ∧ t.credit.cash = s.credit.cash ∧ t.tubes = s.tubes ∧
        (∀ m : Link, s.settings.links[m].mask.getLsbD 7 = true → s.links[m].notices.length < 16 →
          s.links[m].notices ++ [⟨.door isOpen, none⟩] <+: t.links[m].notices) ∧
        (isOpen = false → t.holder = none) ∧
        (isOpen = true → t.holder = s.holder ∧ (∀ o ∈ t.queue, o.funding = .test ∨ o.state = .turning) ∧
          (s.queue = [] → s.payout.kind = some .session →
            (s.payout.state = .waitGrant ∨ (s.payout.state = .ejecting ∧ s.payout.current = none) →
              t.payout.state = .hold ∧ ∀ c ∈ t.claims, c.owner ≠ .payout) ∧
            (s.payout.state = .planning ∨ (s.payout.state = .ejecting ∧ s.payout.current.isSome = true) →
              t.payout = { s.payout with holdPending := true }))) ∧
        (isOpen = false → s.queue = [] → s.payout.state = .hold → s.payout.kind = some .session →
          t.payout.state ≠ .hold)) ∧
      (s.doorOpen ≠ isOpen → s.queue = [] → s.payout.state = .done →
        let timer := some (s.now + s.settings.cooling.setbackDelay * 60000)
        let told := State.broadcast (.door isOpen) { s with doorOpen := isOpen }
        let u := if isOpen then told else released told
        (s.cooling.mode = .normal → exec (.doorChange isOpen) s = .next
          { u with cooling := { s.cooling with setbackEnd := timer } }) ∧
        (s.cooling.mode = .setback → (∀ c ∈ s.claims, c.granted = true ∧ c.owner ≠ .lighting) →
          let base := s.settings.cooling.base
          let size := s.settings.budget.lighting
          let claim : Claim := { owner := .lighting, size := size, promoted := false,
                                 granted := decide (grantedTotal s.claims + size ≤ s.budget), placedAt := s.now }
          exec (.doorChange isOpen) s = .next { State.broadcast (.cooling (.normal base)) { u with
              cooling := { s.cooling with setbackEnd := timer, mode := .normal, effective := base } } with
            claims := s.claims ++ [claim] }))) ∧
    (∀ value : Byte, s.Admits l (.setOutputs value) →
      (4 ≤ value.toNat → exec (.setOutputs l value) s = .next (s.answerOn l 0xDA [0x11])) ∧
      (value.toNat < 4 → exec (.setOutputs l value) s = .next
        (({ s with out2 := value.getLsbD 0, out3 := value.getLsbD 1 } : State).answerOn l 0xDA [0x00]))) ∧
    (s.Admits l .softRestart → (s.card.isSome = true ↔ (s.credit.session = .card ∨ s.credit.session = .cardClosing)) →
      (∃ t : State, exec (.softRestart l) s = .next (t.answerOn l 0xDB [0x00]) ∧ t.queue = [] ∧ t.card = none ∧
        (t.credit.session = .idle ∨ t.credit.session = .cash) ∧ t.credit.returnPending = none ∧ t.holder = none ∧
        t.coin = { s.coin with lockoutEnd := none } ∧ t.credit.cash = s.credit.cash ∧ t.tubes = s.tubes ∧
        t.settings = s.settings ∧ t.store = s.store ∧ t.fitted = s.fitted ∧ t.safety = s.safety ∧
        t.doorOpen = s.doorOpen ∧ t.out2 = s.out2 ∧ t.out3 = s.out3 ∧ (∀ i : Sel, t.sels[i] = s.sels[i]) ∧
        (∀ o, s.queue = [o] → o.state = .turning → t.drive.service = none) ∧
        (s.queue = [] → s.payout.state ≠ .planning → s.payout.current = none → t.payout.state = .done)) ∧
      (s.queue = [] → s.payout.state = .done → s.credit.session ≠ .remote →
        let calm : State := { s with credit := { s.credit with returnPending := none } }
        let ended : State := match s.card with
          | some c => State.broadcast (.credit .idle s.credit.cash .session)
              { State.deliver (.cardEnd c.link c.funds .restart) [c.link] calm with
                card := none, credit := { calm.credit with session := .idle } }
          | none => calm
        exec (.softRestart l) s = .next (State.answerOn l 0xDB [0x00]
          (State.creditTests (State.broadcast (.system .restart 0)
            { released ended with coin := { s.coin with lockoutEnd := none } })))))

/-- The output pins follow their records while the part runs, FAN only with the door closed, and all are off while it does not. A
row and a column are driven exactly for a spiral that is energized: those of a turn that have not homed, or the position of a
probe step; a column not driven is shorted for a spiral being braked; the row driver's duty is 30 % in a probe step and rises in a
turn from 30 % to the run duty over the ramp, and is 0 with nothing energized. Inside the ramp the duty is rounded down to whole per
cent, which is the model's choice (log 26).
At POWER_FAIL, and at RESET_N of a running part, the part stops: it is SAVING, the running region to be written holds the values
as they stood, without reservations and with the three saved hold kinds, and what the other records held is lost. The write of
the stop completes a settings save first. SAVE_SETTINGS takes a snapshot, BUSY while one is written; its end stores it with a
notice while the part runs; each region is closed by the CRC of its contents (R25, R27, R94, R95, R96, R101, R109, R138, R164, R168,
R190, R191, R192; what the lost fields hold: log 5; the store and a region's bytes: log 6; no release waits: log 7). -/
def Obligations.OutputsFollowAndStopSaves : Prop :=
  (∀ s : State, s.power = .running →
     (s.fanPin = true ↔ s.doorOpen = false ∧ (s.cooling.runStart.isSome = true ∨
       (s.cooling.state = .defrost ∧ s.cooling.defrostKind = some .offCycle))) ∧
     (s.compPin = true ↔ s.cooling.runStart.isSome = true) ∧ (s.heatPin = true ↔ s.cooling.heat = true) ∧
     (s.gatePin = true ↔ s.coin.gateEnd.isSome = true) ∧ (s.divertPin = true ↔ s.coin.divert = true) ∧
     (s.out0Pin = true ↔ ∃ c ∈ s.claims, c.owner = .lighting ∧ c.granted = true) ∧
     (s.out1Pin = true ↔ s.exactChange = true) ∧ (s.out2Pin = true ↔ s.out2 = true) ∧ (s.out3Pin = true ↔ s.out3 = true) ∧
     (∀ i, s.ejectPin i = true ↔ ∃ e, s.payout.current = some e ∧ e.driven = true ∧ e.tube = i) ∧
     (let turns (q : Pos) (k : Nat) : Prop := ∃ sv, s.drive.service = some sv ∧ sv.spirals.positions[k]? = some q ∧
        (s.drive.phase = .start ∨ (s.drive.phase = .run ∧ ∃ c, s.drive.cams[k]? = some c ∧ c ≠ .homed))
      let live (q : Pos) : Prop := turns q 0 ∨ turns q 1 ∨
        (s.drive.phase = .probing ∧ s.drive.probePos = some q ∧ s.drive.stepEnd.isSome = true)
      (∀ r : Row, s.rowPin r = true ↔ ∃ q, live q ∧ q.val / 10 = r.val) ∧
      (∀ c : Fin 10, (s.colPin c = .on ↔ ∃ q, live q ∧ q.val % 10 = c.val) ∧
        (s.colPin c = .shorted ↔ (¬ ∃ q, live q ∧ q.val % 10 = c.val) ∧
          ∃ b, s.drive.brake = some b ∧ ∃ q ∈ b.spirals.positions, q.val % 10 = c.val)) ∧
      ((∀ q, ¬ live q) → s.duty = 0) ∧
      ((∃ q, live q) → s.drive.phase = .probing → s.duty = 30) ∧
      (∀ sv, (∃ q, live q) → s.drive.phase ≠ .probing → s.drive.service = some sv →
        let t := s.now - s.drive.turnStart
        s.duty = if sv.profile.ramp ≤ t then sv.profile.duty
          else 30 + (sv.profile.duty - 30) * t / sv.profile.ramp))) ∧
  (∀ s : State, s.power ≠ .running →
     s.fanPin = false ∧ s.compPin = false ∧ s.heatPin = false ∧ s.gatePin = false ∧ s.divertPin = false ∧
     s.out0Pin = false ∧ s.out1Pin = false ∧ s.out2Pin = false ∧ s.out3Pin = false ∧ (∀ i, s.ejectPin i = false) ∧
     (∀ r, s.rowPin r = false) ∧ (∀ c, s.colPin c = .off) ∧ s.duty = 0 ∧ ∀ l, s.atn l = false) ∧
  (∀ s : State,
     let saved : Running :=
       { cash := s.credit.cash, counts := tabulate fun i => s.tubes[i].count, lifetime := s.lifetime, interim := s.interim,
         sels := tabulate fun i => { s.sels[i] with holds := s.sels[i].holds &&& 0b00111 },
         accumulated := s.cooling.accumulated, safety := s.safety.state, cause := s.safety.cause }
     let stopped (t : State) : Prop := t.power = .saving ∧ t.store = { s.store with stopping := some saved } ∧
       t.queue = [] ∧ t.card = none ∧ t.lapsed = [] ∧ t.claims = [] ∧ t.payout.state = .done ∧ t.drive.phase = .idle ∧
       t.holder = none ∧ t.credit.cash = 0 ∧ t.pending = s.pending ∧ t.cams = s.cams ∧ t.free = s.free ∧
       t.startAfter = none ∧ ∀ l : Link, t.links[l].notices = [] ∧ t.links[l].backlog = []
     let written (x : Store) : Region Settings := match x.saving with
       | some c => .written c (crc16 c.bytes)
       | none => x.settings
     (s.power = .running →
       (∃ t : State, exec .powerFail s = .next t ∧ stopped t ∧ t.supply = .powerFail ∧
         t.resetAsserted = s.resetAsserted) ∧
       (∃ t : State, exec .resetNAssert s = .next t ∧ stopped t ∧ t.supply = s.supply ∧ t.resetAsserted = true)) ∧
     (s.power ≠ .running →
       exec .resetNAssert s = .next { s with resetAsserted := true, startAfter := none }) ∧
     (s.power = .saving → s.startAfter = none → exec .runningRegionSaveEnd s = .next { s with
       power := .stopped,
       store := { settings := written s.store,
                  running := match s.store.stopping with
                    | some r => .written r (crc16 r.bytes)
                    | none => s.store.running,
                  saving := none, stopping := none } }) ∧
     (s.power ≠ .saving → exec .runningRegionSaveEnd s = .next s) ∧
     (∀ l, s.Admits l .saveSettings →
       (s.store.saving.isSome = true → exec (.saveSettings l) s = .next (s.answerOn l 0xC8 [0x28])) ∧
       (s.store.saving = none → exec (.saveSettings l) s = .next
         (({ s with store := { s.store with saving := some s.settings } } : State).answerOn l 0xC8 [0x01]))) ∧
     (∀ c, s.store.saving = some c →
       let t : State := { s with store := { s.store with settings := written s.store, saving := none } }
       (s.power = .running → exec .settingsSaveEnd s = .next (State.broadcast (.system .settingsSaved 0) t)) ∧
       (s.power ≠ .running → exec .settingsSaveEnd s = .next t)) ∧
     (s.store.saving = none → exec .settingsSaveEnd s = .next s))

/-- Power-on, by a rise of the supply, a release of RESET_N after or during its stop, or POWER_RECOVERY after a power failure:
settings and running values are those of the regions whose CRC matches their contents and the factory's or nothing's for a bad one;
a write cut short leaves a bad region; POWER_UP is every queue's first notice and SETTINGS_LOST its second after a bad settings
region; each owner starts as its rule gives. Below 70 % the part makes the power-fail stop; a supply that rises behind RESET_N is
held; a release during the stop starts the part at the end of its save (R25, R48, R80, R147, R155, R164, R166, R168, R181, R192,
R193; a region's bytes and a write cut short: log 6; the order of causes: log 7; a count above its capacity is held at it: log 16). -/
def Obligations.PowerOnLoadsRegions : Prop :=
  let good (x : Region Settings) (c : Settings) : Prop := x = .written c (crc16 c.bytes)
  let started (store : Store) (level : Nat) (tb : TubeLevels) (s t : State) : Prop :=
    let c : Settings := match store.settings with
      | .written c crc => if crc16 c.bytes = crc then c else factorySettings
      | .torn => factorySettings
    let none' : Running :=
      { cash := 0, counts := tabulate fun i => if tb.low[i] then c.tubes[i].lowMark else 0,
        lifetime := Vector.replicate 16 0, interim := Vector.replicate 16 0,
        sels := Vector.replicate 80 { stock := none, noDropRun := 0, saleCount := 0, holds := 0 },
        accumulated := 0, safety := .clear, cause := none }
    let r : Running := match store.running with
      | .written r crc => if crc16 r.bytes = crc then r else none'
      | .torn => none'
    let held : Prop := r.safety = .held ∨ c.cooling.enable = false
    let mustHold (i : Sel) : Prop := held ∧ c.sels[i].perishable = true ∧ c.zones[rowOf i] = .chilled
    let count (i : TubeNo) : Nat :=
      let k := c.tubes[i]
      let n := min r.counts[i] k.capacity
      if k.enabled = true ∧ tb.full[i] = true ∧ tb.low[i] = true ∧ n < k.fullMark then k.fullMark
      else if k.enabled = true ∧ tb.full[i] = false ∧ tb.low[i] = false ∧ k.lowMark < n then k.lowMark
      else n
    (level < 70 → t.power = .saving ∧ t.supply = .powerFail ∧ t.store.settings = store.settings ∧
      t.store.stopping.isSome = true ∧ t.claims = [] ∧ t.startAfter = none) ∧
    (70 ≤ level → t.power = .running ∧ t.resetAsserted = false ∧ t.startAfter = none ∧ t.now = 0 ∧ t.settings = c ∧
      t.store = store ∧
      t.supply = (if 90 < level then .good else .low) ∧
      t.credit = { session := if 0 < r.cash then .cash else .idle, cash := r.cash, reserved := 0, vended := false,
                   returnPending := none, payoutActive := false, owed := 0 } ∧
      (∀ i : TubeNo, t.tubes[i] = { count := count i, full := tb.full[i], low := tb.low[i] }) ∧
      (∀ k : Counter, k ≠ .adjustUp → k ≠ .adjustDown →
        t.lifetime[k.code] = r.lifetime[k.code] ∧ t.interim[k.code] = r.interim[k.code]) ∧
      (∀ i : Sel, (mustHold i → t.sels[i] = { r.sels[i] with holds := r.sels[i].holds &&& 0b00111 ||| 0b01000 }) ∧
        (¬ mustHold i → t.sels[i] = { r.sels[i] with holds := r.sels[i].holds &&& 0b00111 })) ∧
      (held → t.safety.state = .held ∧ t.safety.check = false) ∧ (¬ held → t.safety.state = .clear ∧ t.safety.check = true) ∧
      t.cooling.accumulated = r.accumulated ∧ t.cooling.runStart = none ∧ t.cooling.lastStop = none ∧
      t.cooling.zone = { fault := false, count := 0, filtered := none, raw := none } ∧ t.cooling.evap = t.cooling.zone ∧
      t.cooling.state = (if c.cooling.enable = false then .off
        else if c.cooling.intervalH * 3600000 + 3600000 ≤ r.accumulated then .defrost else .startDelay) ∧
      t.cooling.mode = .normal ∧ t.cooling.setbackEnd = some (c.cooling.setbackDelay * 60000) ∧
      t.coin = initCoin ∧ t.payout = initPayout ∧ t.queue = [] ∧ t.card = none ∧ t.lapsed = [] ∧ t.holder = none ∧
      t.doorOpen = false ∧ t.blind = false ∧ t.lateDrop = none ∧ t.fitted = Vector.replicate 80 true ∧ t.out2 = false ∧
      t.out3 = false ∧ (t.drive.phase = .probeWait ∨ t.drive.phase = .probing) ∧
      (∃ x ∈ t.claims, x.owner = .probe) ∧ (∃ x ∈ t.claims, x.owner = .lighting) ∧
      (∀ x ∈ t.claims, x.owner = .probe ∨ x.owner = .lighting ∨ x.owner = .heater) ∧
      (∀ l : Link, t.links[l].rx = .awaitSync ∧ t.links[l].errors = 0 ∧ t.links[l].backlog = [] ∧
        t.links[l].notices.head? = some ⟨.system .powerUp 0, none⟩ ∧
        ((∀ c, ¬ good store.settings c) → t.links[l].notices[1]? = some ⟨.system .settingsLost 0, none⟩)) ∧
      t.pending = s.pending ∧ t.cams = s.cams ∧ t.free = s.free)
  ∀ (level : Nat) (tb : TubeLevels) (s : State),
    (∀ r crc, s.store.running = .written r crc → r.safety = .held → r.cause.isSome = true) →
    (∀ r, s.store.stopping = some r → r.safety = .held → r.cause.isSome = true) →
    let cut : Store :=
      { settings := if s.store.saving.isSome then .torn else s.store.settings,
        running := if s.store.saving.isNone && s.store.stopping.isSome then .torn else s.store.running,
        saving := none, stopping := none }
    let saved : Store :=
      { settings := match s.store.saving with | some c => .written c (crc16 c.bytes) | none => s.store.settings,
        running := match s.store.stopping with | some r => .written r (crc16 r.bytes) | none => s.store.running,
        saving := none, stopping := none }
    (s.resetAsserted = false →
      ∃ t : State, exec (.powerOn .supplyRise level tb) s = .next t ∧ started cut level tb s t) ∧
    (s.resetAsserted = true → ∃ t : State, exec (.powerOn .supplyRise level tb) s = .next t ∧ t.power = .stopped ∧
      t.store = cut ∧ t.resetAsserted = true ∧ t.startAfter = none) ∧
    (s.resetAsserted = false → exec (.powerOn .resetRelease level tb) s = .next s) ∧
    (s.resetAsserted = true →
      (s.supply = .powerFail → level ≤ 90 →
        exec (.powerOn .resetRelease level tb) s = .next { s with resetAsserted := false }) ∧
      (s.supply ≠ .powerFail ∨ 90 < level →
        (s.power = .stopped →
          ∃ t : State, exec (.powerOn .resetRelease level tb) s = .next t ∧ started s.store level tb s t) ∧
        (s.power = .saving → exec (.powerOn .resetRelease level tb) s = .next
          { s with resetAsserted := false, startAfter := some (level, tb) }))) ∧
    (s.power = .saving → s.startAfter = some (level, tb) →
      ∃ t : State, exec .runningRegionSaveEnd s = .next t ∧ started saved level tb s t) ∧
    (let ready : Prop := s.power = .stopped ∧ s.supply = .powerFail ∧ s.resetAsserted = false ∧ 90 < level
     (ready → ∃ t : State, exec (.powerRecovery level tb) s = .next t ∧ started s.store level tb s t) ∧
     (¬ ready → exec (.powerRecovery level tb) s = .next s))

/-! ## Laws that every step keeps -/

/-- The lists stay within their sizes, each owner has at most one claim, and no link holds service privilege while the door is
closed, in every state that a step reaches from a state in which that holds; where the grants have been acted on before a
step, they have been after it; and where the safety laws held they hold still: a zone sensor in FAULT is never CLEAR, outside CLEAR
the mode is NORMAL, SAFETY is held in HELD by exactly the perishable selections of CHILLED rows and outside HELD by none, and a hold
has its cause, here and in the running region (R144, R148, R149, R152, R153, R155, R190). -/
def Obligations.EveryStepKeepsBounds : Prop :=
  ∀ s t : State, s.Bounded → step s = .next t →
    t.Bounded ∧ (s.Quiet → t.Quiet) ∧ (s.SafetyHolds → t.SafetyHolds)

/-- The settings in force and every stored copy of them stay in the ranges their rules give, no two enabled coin types overlap, an
enabled type shares its tube's value, and no tube's count stands above its capacity, in every state that a step reaches from a state
in which that holds (R8, R30, R31, R41, R43, R45, R72, R96, R132, R165, R177). -/
def Obligations.EveryStepKeepsSettingsInRange : Prop :=
  ∀ s t : State, s.SettingsHold → step s = .next t → t.SettingsHold

/-- The state right after reset meets the laws, and is the one that POWER_ON gives with no good region, the mains at 100 % and
every tube sensor CLEAR. The model's choice of reset: log 1. -/
def Obligations.ResetMeetsTheLaws : Prop :=
  State.reset.Bounded ∧ State.reset.Quiet ∧ State.reset.SettingsHold ∧ State.reset.MoneyHolds ∧
  State.reset.BooksHold ∧ State.reset.SafetyHolds ∧
  exec (.powerOn .supplyRise 100 { full := Vector.replicate 5 false, low := Vector.replicate 5 false })
    (State.reset.cleared) = .next State.reset
end

