-- ==== Sys2Proof/Laws/State.lean ====
section
/-! SUPPORT. One lemma for each field of the state under each named update: the changed field has its new value, every other is as
it was. A lemma `State.<update>_<field>` says what `<field>` is after `<update>`. -/

namespace Sys2Proof.Machine

/-- Entry `j` of a table changed at `i`. -/
@[simp] theorem upd_getElem {α : Type} {n : Nat} (v : Vector α n) (i : Fin n) (f : α → α) (j : Nat) (hj : j < n) :
    (upd v i f)[j] = if i.val = j then f v[j] else v[j] := by
  by_cases h : i.val = j
  · subst h; simp [upd]
  · simp [upd, h]

/-- Entry `j` of a table changed at `i`, by its number. -/
theorem upd_get {α : Type} {n : Nat} (v : Vector α n) (i j : Fin n) (f : α → α) :
    (upd v i f)[j] = if i = j then f v[j] else v[j] := by
  simp [Fin.ext_iff]

/-- An entry of a table that is given by a function. -/
@[simp] theorem tabulate_getElem {α : Type} {n : Nat} (f : Fin n → α) (j : Nat) (hj : j < n) :
    (tabulate f)[j] = f ⟨j, hj⟩ := by
  simp [tabulate]

/-- An entry of a table that is given by a function, by its number. -/
theorem tabulate_get {α : Type} {n : Nat} (f : Fin n → α) (i : Fin n) : (tabulate f)[i] = f i := by
  simp

/-! ## modPort -/

@[simp] theorem State.modPort_pending (s : State) (l : Link) (f : LinkPort → LinkPort) :
    (s.modPort l f).pending = s.pending := rfl
@[simp] theorem State.modPort_now (s : State) (l : Link) (f : LinkPort → LinkPort) : (s.modPort l f).now = s.now := rfl
@[simp] theorem State.modPort_power (s : State) (l : Link) (f : LinkPort → LinkPort) : (s.modPort l f).power = s.power := rfl
@[simp] theorem State.modPort_resetAsserted (s : State) (l : Link) (f : LinkPort → LinkPort) :
    (s.modPort l f).resetAsserted = s.resetAsserted := rfl
@[simp] theorem State.modPort_startAfter (s : State) (l : Link) (f : LinkPort → LinkPort) :
    (s.modPort l f).startAfter = s.startAfter := rfl
@[simp] theorem State.modPort_settings (s : State) (l : Link) (f : LinkPort → LinkPort) :
    (s.modPort l f).settings = s.settings := rfl
@[simp] theorem State.modPort_store (s : State) (l : Link) (f : LinkPort → LinkPort) : (s.modPort l f).store = s.store := rfl
@[simp] theorem State.modPort_links (s : State) (l : Link) (f : LinkPort → LinkPort) :
    (s.modPort l f).links = upd s.links l f := rfl
@[simp] theorem State.modPort_credit (s : State) (l : Link) (f : LinkPort → LinkPort) : (s.modPort l f).credit = s.credit := rfl
@[simp] theorem State.modPort_coin (s : State) (l : Link) (f : LinkPort → LinkPort) : (s.modPort l f).coin = s.coin := rfl
@[simp] theorem State.modPort_tubes (s : State) (l : Link) (f : LinkPort → LinkPort) : (s.modPort l f).tubes = s.tubes := rfl
@[simp] theorem State.modPort_exactChange (s : State) (l : Link) (f : LinkPort → LinkPort) :
    (s.modPort l f).exactChange = s.exactChange := rfl
@[simp] theorem State.modPort_payout (s : State) (l : Link) (f : LinkPort → LinkPort) : (s.modPort l f).payout = s.payout := rfl
@[simp] theorem State.modPort_sels (s : State) (l : Link) (f : LinkPort → LinkPort) : (s.modPort l f).sels = s.sels := rfl
@[simp] theorem State.modPort_queue (s : State) (l : Link) (f : LinkPort → LinkPort) : (s.modPort l f).queue = s.queue := rfl
@[simp] theorem State.modPort_lastId (s : State) (l : Link) (f : LinkPort → LinkPort) : (s.modPort l f).lastId = s.lastId := rfl
@[simp] theorem State.modPort_drive (s : State) (l : Link) (f : LinkPort → LinkPort) : (s.modPort l f).drive = s.drive := rfl
@[simp] theorem State.modPort_fitted (s : State) (l : Link) (f : LinkPort → LinkPort) : (s.modPort l f).fitted = s.fitted := rfl
@[simp] theorem State.modPort_blind (s : State) (l : Link) (f : LinkPort → LinkPort) : (s.modPort l f).blind = s.blind := rfl
@[simp] theorem State.modPort_lateDrop (s : State) (l : Link) (f : LinkPort → LinkPort) :
    (s.modPort l f).lateDrop = s.lateDrop := rfl
@[simp] theorem State.modPort_cams (s : State) (l : Link) (f : LinkPort → LinkPort) : (s.modPort l f).cams = s.cams := rfl
@[simp] theorem State.modPort_card (s : State) (l : Link) (f : LinkPort → LinkPort) : (s.modPort l f).card = s.card := rfl
@[simp] theorem State.modPort_lapsed (s : State) (l : Link) (f : LinkPort → LinkPort) : (s.modPort l f).lapsed = s.lapsed := rfl
@[simp] theorem State.modPort_cooling (s : State) (l : Link) (f : LinkPort → LinkPort) :
    (s.modPort l f).cooling = s.cooling := rfl
@[simp] theorem State.modPort_safety (s : State) (l : Link) (f : LinkPort → LinkPort) : (s.modPort l f).safety = s.safety := rfl
@[simp] theorem State.modPort_claims (s : State) (l : Link) (f : LinkPort → LinkPort) : (s.modPort l f).claims = s.claims := rfl
@[simp] theorem State.modPort_supply (s : State) (l : Link) (f : LinkPort → LinkPort) : (s.modPort l f).supply = s.supply := rfl
@[simp] theorem State.modPort_holder (s : State) (l : Link) (f : LinkPort → LinkPort) : (s.modPort l f).holder = s.holder := rfl
@[simp] theorem State.modPort_doorOpen (s : State) (l : Link) (f : LinkPort → LinkPort) :
    (s.modPort l f).doorOpen = s.doorOpen := rfl
@[simp] theorem State.modPort_lifetime (s : State) (l : Link) (f : LinkPort → LinkPort) :
    (s.modPort l f).lifetime = s.lifetime := rfl
@[simp] theorem State.modPort_interim (s : State) (l : Link) (f : LinkPort → LinkPort) :
    (s.modPort l f).interim = s.interim := rfl
@[simp] theorem State.modPort_out2 (s : State) (l : Link) (f : LinkPort → LinkPort) : (s.modPort l f).out2 = s.out2 := rfl
@[simp] theorem State.modPort_out3 (s : State) (l : Link) (f : LinkPort → LinkPort) : (s.modPort l f).out3 = s.out3 := rfl
@[simp] theorem State.modPort_free (s : State) (l : Link) (f : LinkPort → LinkPort) : (s.modPort l f).free = s.free := rfl

/-! ## modSel -/

@[simp] theorem State.modSel_pending (s : State) (i : Sel) (f : SelRun → SelRun) : (s.modSel i f).pending = s.pending := rfl
@[simp] theorem State.modSel_now (s : State) (i : Sel) (f : SelRun → SelRun) : (s.modSel i f).now = s.now := rfl
@[simp] theorem State.modSel_power (s : State) (i : Sel) (f : SelRun → SelRun) : (s.modSel i f).power = s.power := rfl
@[simp] theorem State.modSel_resetAsserted (s : State) (i : Sel) (f : SelRun → SelRun) :
    (s.modSel i f).resetAsserted = s.resetAsserted := rfl
@[simp] theorem State.modSel_startAfter (s : State) (i : Sel) (f : SelRun → SelRun) :
    (s.modSel i f).startAfter = s.startAfter := rfl
@[simp] theorem State.modSel_settings (s : State) (i : Sel) (f : SelRun → SelRun) : (s.modSel i f).settings = s.settings := rfl
@[simp] theorem State.modSel_store (s : State) (i : Sel) (f : SelRun → SelRun) : (s.modSel i f).store = s.store := rfl
@[simp] theorem State.modSel_links (s : State) (i : Sel) (f : SelRun → SelRun) : (s.modSel i f).links = s.links := rfl
@[simp] theorem State.modSel_credit (s : State) (i : Sel) (f : SelRun → SelRun) : (s.modSel i f).credit = s.credit := rfl
@[simp] theorem State.modSel_coin (s : State) (i : Sel) (f : SelRun → SelRun) : (s.modSel i f).coin = s.coin := rfl
@[simp] theorem State.modSel_tubes (s : State) (i : Sel) (f : SelRun → SelRun) : (s.modSel i f).tubes = s.tubes := rfl
@[simp] theorem State.modSel_exactChange (s : State) (i : Sel) (f : SelRun → SelRun) :
    (s.modSel i f).exactChange = s.exactChange := rfl
@[simp] theorem State.modSel_payout (s : State) (i : Sel) (f : SelRun → SelRun) : (s.modSel i f).payout = s.payout := rfl
@[simp] theorem State.modSel_sels (s : State) (i : Sel) (f : SelRun → SelRun) : (s.modSel i f).sels = upd s.sels i f := rfl
@[simp] theorem State.modSel_queue (s : State) (i : Sel) (f : SelRun → SelRun) : (s.modSel i f).queue = s.queue := rfl
@[simp] theorem State.modSel_lastId (s : State) (i : Sel) (f : SelRun → SelRun) : (s.modSel i f).lastId = s.lastId := rfl
@[simp] theorem State.modSel_drive (s : State) (i : Sel) (f : SelRun → SelRun) : (s.modSel i f).drive = s.drive := rfl
@[simp] theorem State.modSel_fitted (s : State) (i : Sel) (f : SelRun → SelRun) : (s.modSel i f).fitted = s.fitted := rfl
@[simp] theorem State.modSel_blind (s : State) (i : Sel) (f : SelRun → SelRun) : (s.modSel i f).blind = s.blind := rfl
@[simp] theorem State.modSel_lateDrop (s : State) (i : Sel) (f : SelRun → SelRun) : (s.modSel i f).lateDrop = s.lateDrop := rfl
@[simp] theorem State.modSel_cams (s : State) (i : Sel) (f : SelRun → SelRun) : (s.modSel i f).cams = s.cams := rfl
@[simp] theorem State.modSel_card (s : State) (i : Sel) (f : SelRun → SelRun) : (s.modSel i f).card = s.card := rfl
@[simp] theorem State.modSel_lapsed (s : State) (i : Sel) (f : SelRun → SelRun) : (s.modSel i f).lapsed = s.lapsed := rfl
@[simp] theorem State.modSel_cooling (s : State) (i : Sel) (f : SelRun → SelRun) : (s.modSel i f).cooling = s.cooling := rfl
@[simp] theorem State.modSel_safety (s : State) (i : Sel) (f : SelRun → SelRun) : (s.modSel i f).safety = s.safety := rfl
@[simp] theorem State.modSel_claims (s : State) (i : Sel) (f : SelRun → SelRun) : (s.modSel i f).claims = s.claims := rfl
@[simp] theorem State.modSel_supply (s : State) (i : Sel) (f : SelRun → SelRun) : (s.modSel i f).supply = s.supply := rfl
@[simp] theorem State.modSel_holder (s : State) (i : Sel) (f : SelRun → SelRun) : (s.modSel i f).holder = s.holder := rfl
@[simp] theorem State.modSel_doorOpen (s : State) (i : Sel) (f : SelRun → SelRun) : (s.modSel i f).doorOpen = s.doorOpen := rfl
@[simp] theorem State.modSel_lifetime (s : State) (i : Sel) (f : SelRun → SelRun) : (s.modSel i f).lifetime = s.lifetime := rfl
@[simp] theorem State.modSel_interim (s : State) (i : Sel) (f : SelRun → SelRun) : (s.modSel i f).interim = s.interim := rfl
@[simp] theorem State.modSel_out2 (s : State) (i : Sel) (f : SelRun → SelRun) : (s.modSel i f).out2 = s.out2 := rfl
@[simp] theorem State.modSel_out3 (s : State) (i : Sel) (f : SelRun → SelRun) : (s.modSel i f).out3 = s.out3 := rfl
@[simp] theorem State.modSel_free (s : State) (i : Sel) (f : SelRun → SelRun) : (s.modSel i f).free = s.free := rfl

/-! ## modSelSettings -/

@[simp] theorem State.modSelSettings_pending (s : State) (i : Sel) (f : SelSettings → SelSettings) :
    (s.modSelSettings i f).pending = s.pending := rfl
@[simp] theorem State.modSelSettings_now (s : State) (i : Sel) (f : SelSettings → SelSettings) :
    (s.modSelSettings i f).now = s.now := rfl
@[simp] theorem State.modSelSettings_power (s : State) (i : Sel) (f : SelSettings → SelSettings) :
    (s.modSelSettings i f).power = s.power := rfl
@[simp] theorem State.modSelSettings_resetAsserted (s : State) (i : Sel) (f : SelSettings → SelSettings) :
    (s.modSelSettings i f).resetAsserted = s.resetAsserted := rfl
@[simp] theorem State.modSelSettings_startAfter (s : State) (i : Sel) (f : SelSettings → SelSettings) :
    (s.modSelSettings i f).startAfter = s.startAfter := rfl
@[simp] theorem State.modSelSettings_settings (s : State) (i : Sel) (f : SelSettings → SelSettings) :
    (s.modSelSettings i f).settings = { s.settings with sels := upd s.settings.sels i f } := rfl
@[simp] theorem State.modSelSettings_store (s : State) (i : Sel) (f : SelSettings → SelSettings) :
    (s.modSelSettings i f).store = s.store := rfl
@[simp] theorem State.modSelSettings_links (s : State) (i : Sel) (f : SelSettings → SelSettings) :
    (s.modSelSettings i f).links = s.links := rfl
@[simp] theorem State.modSelSettings_credit (s : State) (i : Sel) (f : SelSettings → SelSettings) :
    (s.modSelSettings i f).credit = s.credit := rfl
@[simp] theorem State.modSelSettings_coin (s : State) (i : Sel) (f : SelSettings → SelSettings) :
    (s.modSelSettings i f).coin = s.coin := rfl
@[simp] theorem State.modSelSettings_tubes (s : State) (i : Sel) (f : SelSettings → SelSettings) :
    (s.modSelSettings i f).tubes = s.tubes := rfl
@[simp] theorem State.modSelSettings_exactChange (s : State) (i : Sel) (f : SelSettings → SelSettings) :
    (s.modSelSettings i f).exactChange = s.exactChange := rfl
@[simp] theorem State.modSelSettings_payout (s : State) (i : Sel) (f : SelSettings → SelSettings) :
    (s.modSelSettings i f).payout = s.payout := rfl
@[simp] theorem State.modSelSettings_sels (s : State) (i : Sel) (f : SelSettings → SelSettings) :
    (s.modSelSettings i f).sels = s.sels := rfl
@[simp] theorem State.modSelSettings_queue (s : State) (i : Sel) (f : SelSettings → SelSettings) :
    (s.modSelSettings i f).queue = s.queue := rfl
@[simp] theorem State.modSelSettings_lastId (s : State) (i : Sel) (f : SelSettings → SelSettings) :
    (s.modSelSettings i f).lastId = s.lastId := rfl
@[simp] theorem State.modSelSettings_drive (s : State) (i : Sel) (f : SelSettings → SelSettings) :
    (s.modSelSettings i f).drive = s.drive := rfl
@[simp] theorem State.modSelSettings_fitted (s : State) (i : Sel) (f : SelSettings → SelSettings) :
    (s.modSelSettings i f).fitted = s.fitted := rfl
@[simp] theorem State.modSelSettings_blind (s : State) (i : Sel) (f : SelSettings → SelSettings) :
    (s.modSelSettings i f).blind = s.blind := rfl
@[simp] theorem State.modSelSettings_lateDrop (s : State) (i : Sel) (f : SelSettings → SelSettings) :
    (s.modSelSettings i f).lateDrop = s.lateDrop := rfl
@[simp] theorem State.modSelSettings_cams (s : State) (i : Sel) (f : SelSettings → SelSettings) :
    (s.modSelSettings i f).cams = s.cams := rfl
@[simp] theorem State.modSelSettings_card (s : State) (i : Sel) (f : SelSettings → SelSettings) :
    (s.modSelSettings i f).card = s.card := rfl
@[simp] theorem State.modSelSettings_lapsed (s : State) (i : Sel) (f : SelSettings → SelSettings) :
    (s.modSelSettings i f).lapsed = s.lapsed := rfl
@[simp] theorem State.modSelSettings_cooling (s : State) (i : Sel) (f : SelSettings → SelSettings) :
    (s.modSelSettings i f).cooling = s.cooling := rfl
@[simp] theorem State.modSelSettings_safety (s : State) (i : Sel) (f : SelSettings → SelSettings) :
    (s.modSelSettings i f).safety = s.safety := rfl
@[simp] theorem State.modSelSettings_claims (s : State) (i : Sel) (f : SelSettings → SelSettings) :
    (s.modSelSettings i f).claims = s.claims := rfl
@[simp] theorem State.modSelSettings_supply (s : State) (i : Sel) (f : SelSettings → SelSettings) :
    (s.modSelSettings i f).supply = s.supply := rfl
@[simp] theorem State.modSelSettings_holder (s : State) (i : Sel) (f : SelSettings → SelSettings) :
    (s.modSelSettings i f).holder = s.holder := rfl
@[simp] theorem State.modSelSettings_doorOpen (s : State) (i : Sel) (f : SelSettings → SelSettings) :
    (s.modSelSettings i f).doorOpen = s.doorOpen := rfl
@[simp] theorem State.modSelSettings_lifetime (s : State) (i : Sel) (f : SelSettings → SelSettings) :
    (s.modSelSettings i f).lifetime = s.lifetime := rfl
@[simp] theorem State.modSelSettings_interim (s : State) (i : Sel) (f : SelSettings → SelSettings) :
    (s.modSelSettings i f).interim = s.interim := rfl
@[simp] theorem State.modSelSettings_out2 (s : State) (i : Sel) (f : SelSettings → SelSettings) :
    (s.modSelSettings i f).out2 = s.out2 := rfl
@[simp] theorem State.modSelSettings_out3 (s : State) (i : Sel) (f : SelSettings → SelSettings) :
    (s.modSelSettings i f).out3 = s.out3 := rfl
@[simp] theorem State.modSelSettings_free (s : State) (i : Sel) (f : SelSettings → SelSettings) :
    (s.modSelSettings i f).free = s.free := rfl

/-! ## modTube -/

@[simp] theorem State.modTube_pending (s : State) (i : TubeNo) (f : TubeRun → TubeRun) :
    (s.modTube i f).pending = s.pending := rfl
@[simp] theorem State.modTube_now (s : State) (i : TubeNo) (f : TubeRun → TubeRun) : (s.modTube i f).now = s.now := rfl
@[simp] theorem State.modTube_power (s : State) (i : TubeNo) (f : TubeRun → TubeRun) : (s.modTube i f).power = s.power := rfl
@[simp] theorem State.modTube_resetAsserted (s : State) (i : TubeNo) (f : TubeRun → TubeRun) :
    (s.modTube i f).resetAsserted = s.resetAsserted := rfl
@[simp] theorem State.modTube_startAfter (s : State) (i : TubeNo) (f : TubeRun → TubeRun) :
    (s.modTube i f).startAfter = s.startAfter := rfl
@[simp] theorem State.modTube_settings (s : State) (i : TubeNo) (f : TubeRun → TubeRun) :
    (s.modTube i f).settings = s.settings := rfl
@[simp] theorem State.modTube_store (s : State) (i : TubeNo) (f : TubeRun → TubeRun) : (s.modTube i f).store = s.store := rfl
@[simp] theorem State.modTube_links (s : State) (i : TubeNo) (f : TubeRun → TubeRun) : (s.modTube i f).links = s.links := rfl
@[simp] theorem State.modTube_credit (s : State) (i : TubeNo) (f : TubeRun → TubeRun) : (s.modTube i f).credit = s.credit := rfl
@[simp] theorem State.modTube_coin (s : State) (i : TubeNo) (f : TubeRun → TubeRun) : (s.modTube i f).coin = s.coin := rfl
@[simp] theorem State.modTube_tubes (s : State) (i : TubeNo) (f : TubeRun → TubeRun) :
    (s.modTube i f).tubes = upd s.tubes i f := rfl
@[simp] theorem State.modTube_exactChange (s : State) (i : TubeNo) (f : TubeRun → TubeRun) :
    (s.modTube i f).exactChange = s.exactChange := rfl
@[simp] theorem State.modTube_payout (s : State) (i : TubeNo) (f : TubeRun → TubeRun) : (s.modTube i f).payout = s.payout := rfl
@[simp] theorem State.modTube_sels (s : State) (i : TubeNo) (f : TubeRun → TubeRun) : (s.modTube i f).sels = s.sels := rfl
@[simp] theorem State.modTube_queue (s : State) (i : TubeNo) (f : TubeRun → TubeRun) : (s.modTube i f).queue = s.queue := rfl
@[simp] theorem State.modTube_lastId (s : State) (i : TubeNo) (f : TubeRun → TubeRun) : (s.modTube i f).lastId = s.lastId := rfl
@[simp] theorem State.modTube_drive (s : State) (i : TubeNo) (f : TubeRun → TubeRun) : (s.modTube i f).drive = s.drive := rfl
@[simp] theorem State.modTube_fitted (s : State) (i : TubeNo) (f : TubeRun → TubeRun) : (s.modTube i f).fitted = s.fitted := rfl
@[simp] theorem State.modTube_blind (s : State) (i : TubeNo) (f : TubeRun → TubeRun) : (s.modTube i f).blind = s.blind := rfl
@[simp] theorem State.modTube_lateDrop (s : State) (i : TubeNo) (f : TubeRun → TubeRun) :
    (s.modTube i f).lateDrop = s.lateDrop := rfl
@[simp] theorem State.modTube_cams (s : State) (i : TubeNo) (f : TubeRun → TubeRun) : (s.modTube i f).cams = s.cams := rfl
@[simp] theorem State.modTube_card (s : State) (i : TubeNo) (f : TubeRun → TubeRun) : (s.modTube i f).card = s.card := rfl
@[simp] theorem State.modTube_lapsed (s : State) (i : TubeNo) (f : TubeRun → TubeRun) : (s.modTube i f).lapsed = s.lapsed := rfl
@[simp] theorem State.modTube_cooling (s : State) (i : TubeNo) (f : TubeRun → TubeRun) :
    (s.modTube i f).cooling = s.cooling := rfl
@[simp] theorem State.modTube_safety (s : State) (i : TubeNo) (f : TubeRun → TubeRun) : (s.modTube i f).safety = s.safety := rfl
@[simp] theorem State.modTube_claims (s : State) (i : TubeNo) (f : TubeRun → TubeRun) : (s.modTube i f).claims = s.claims := rfl
@[simp] theorem State.modTube_supply (s : State) (i : TubeNo) (f : TubeRun → TubeRun) : (s.modTube i f).supply = s.supply := rfl
@[simp] theorem State.modTube_holder (s : State) (i : TubeNo) (f : TubeRun → TubeRun) : (s.modTube i f).holder = s.holder := rfl
@[simp] theorem State.modTube_doorOpen (s : State) (i : TubeNo) (f : TubeRun → TubeRun) :
    (s.modTube i f).doorOpen = s.doorOpen := rfl
@[simp] theorem State.modTube_lifetime (s : State) (i : TubeNo) (f : TubeRun → TubeRun) :
    (s.modTube i f).lifetime = s.lifetime := rfl
@[simp] theorem State.modTube_interim (s : State) (i : TubeNo) (f : TubeRun → TubeRun) :
    (s.modTube i f).interim = s.interim := rfl
@[simp] theorem State.modTube_out2 (s : State) (i : TubeNo) (f : TubeRun → TubeRun) : (s.modTube i f).out2 = s.out2 := rfl
@[simp] theorem State.modTube_out3 (s : State) (i : TubeNo) (f : TubeRun → TubeRun) : (s.modTube i f).out3 = s.out3 := rfl
@[simp] theorem State.modTube_free (s : State) (i : TubeNo) (f : TubeRun → TubeRun) : (s.modTube i f).free = s.free := rfl

/-! ## modCredit -/

@[simp] theorem State.modCredit_pending (s : State) (f : Credit → Credit) : (s.modCredit f).pending = s.pending := rfl
@[simp] theorem State.modCredit_now (s : State) (f : Credit → Credit) : (s.modCredit f).now = s.now := rfl
@[simp] theorem State.modCredit_power (s : State) (f : Credit → Credit) : (s.modCredit f).power = s.power := rfl
@[simp] theorem State.modCredit_resetAsserted (s : State) (f : Credit → Credit) :
    (s.modCredit f).resetAsserted = s.resetAsserted := rfl
@[simp] theorem State.modCredit_startAfter (s : State) (f : Credit → Credit) : (s.modCredit f).startAfter = s.startAfter := rfl
@[simp] theorem State.modCredit_settings (s : State) (f : Credit → Credit) : (s.modCredit f).settings = s.settings := rfl
@[simp] theorem State.modCredit_store (s : State) (f : Credit → Credit) : (s.modCredit f).store = s.store := rfl
@[simp] theorem State.modCredit_links (s : State) (f : Credit → Credit) : (s.modCredit f).links = s.links := rfl
@[simp] theorem State.modCredit_credit (s : State) (f : Credit → Credit) : (s.modCredit f).credit = f s.credit := rfl
@[simp] theorem State.modCredit_coin (s : State) (f : Credit → Credit) : (s.modCredit f).coin = s.coin := rfl
@[simp] theorem State.modCredit_tubes (s : State) (f : Credit → Credit) : (s.modCredit f).tubes = s.tubes := rfl
@[simp] theorem State.modCredit_exactChange (s : State) (f : Credit → Credit) : (s.modCredit f).exactChange = s.exactChange := rfl
@[simp] theorem State.modCredit_payout (s : State) (f : Credit → Credit) : (s.modCredit f).payout = s.payout := rfl
@[simp] theorem State.modCredit_sels (s : State) (f : Credit → Credit) : (s.modCredit f).sels = s.sels := rfl
@[simp] theorem State.modCredit_queue (s : State) (f : Credit → Credit) : (s.modCredit f).queue = s.queue := rfl
@[simp] theorem State.modCredit_lastId (s : State) (f : Credit → Credit) : (s.modCredit f).lastId = s.lastId := rfl
@[simp] theorem State.modCredit_drive (s : State) (f : Credit → Credit) : (s.modCredit f).drive = s.drive := rfl
@[simp] theorem State.modCredit_fitted (s : State) (f : Credit → Credit) : (s.modCredit f).fitted = s.fitted := rfl
@[simp] theorem State.modCredit_blind (s : State) (f : Credit → Credit) : (s.modCredit f).blind = s.blind := rfl
@[simp] theorem State.modCredit_lateDrop (s : State) (f : Credit → Credit) : (s.modCredit f).lateDrop = s.lateDrop := rfl
@[simp] theorem State.modCredit_cams (s : State) (f : Credit → Credit) : (s.modCredit f).cams = s.cams := rfl
@[simp] theorem State.modCredit_card (s : State) (f : Credit → Credit) : (s.modCredit f).card = s.card := rfl
@[simp] theorem State.modCredit_lapsed (s : State) (f : Credit → Credit) : (s.modCredit f).lapsed = s.lapsed := rfl
@[simp] theorem State.modCredit_cooling (s : State) (f : Credit → Credit) : (s.modCredit f).cooling = s.cooling := rfl
@[simp] theorem State.modCredit_safety (s : State) (f : Credit → Credit) : (s.modCredit f).safety = s.safety := rfl
@[simp] theorem State.modCredit_claims (s : State) (f : Credit → Credit) : (s.modCredit f).claims = s.claims := rfl
@[simp] theorem State.modCredit_supply (s : State) (f : Credit → Credit) : (s.modCredit f).supply = s.supply := rfl
@[simp] theorem State.modCredit_holder (s : State) (f : Credit → Credit) : (s.modCredit f).holder = s.holder := rfl
@[simp] theorem State.modCredit_doorOpen (s : State) (f : Credit → Credit) : (s.modCredit f).doorOpen = s.doorOpen := rfl
@[simp] theorem State.modCredit_lifetime (s : State) (f : Credit → Credit) : (s.modCredit f).lifetime = s.lifetime := rfl
@[simp] theorem State.modCredit_interim (s : State) (f : Credit → Credit) : (s.modCredit f).interim = s.interim := rfl
@[simp] theorem State.modCredit_out2 (s : State) (f : Credit → Credit) : (s.modCredit f).out2 = s.out2 := rfl
@[simp] theorem State.modCredit_out3 (s : State) (f : Credit → Credit) : (s.modCredit f).out3 = s.out3 := rfl
@[simp] theorem State.modCredit_free (s : State) (f : Credit → Credit) : (s.modCredit f).free = s.free := rfl

/-! ## modCoin -/

@[simp] theorem State.modCoin_pending (s : State) (f : CoinFront → CoinFront) : (s.modCoin f).pending = s.pending := rfl
@[simp] theorem State.modCoin_now (s : State) (f : CoinFront → CoinFront) : (s.modCoin f).now = s.now := rfl
@[simp] theorem State.modCoin_power (s : State) (f : CoinFront → CoinFront) : (s.modCoin f).power = s.power := rfl
@[simp] theorem State.modCoin_resetAsserted (s : State) (f : CoinFront → CoinFront) :
    (s.modCoin f).resetAsserted = s.resetAsserted := rfl
@[simp] theorem State.modCoin_startAfter (s : State) (f : CoinFront → CoinFront) : (s.modCoin f).startAfter = s.startAfter := rfl
@[simp] theorem State.modCoin_settings (s : State) (f : CoinFront → CoinFront) : (s.modCoin f).settings = s.settings := rfl
@[simp] theorem State.modCoin_store (s : State) (f : CoinFront → CoinFront) : (s.modCoin f).store = s.store := rfl
@[simp] theorem State.modCoin_links (s : State) (f : CoinFront → CoinFront) : (s.modCoin f).links = s.links := rfl
@[simp] theorem State.modCoin_credit (s : State) (f : CoinFront → CoinFront) : (s.modCoin f).credit = s.credit := rfl
@[simp] theorem State.modCoin_coin (s : State) (f : CoinFront → CoinFront) : (s.modCoin f).coin = f s.coin := rfl
@[simp] theorem State.modCoin_tubes (s : State) (f : CoinFront → CoinFront) : (s.modCoin f).tubes = s.tubes := rfl
@[simp] theorem State.modCoin_exactChange (s : State) (f : CoinFront → CoinFront) :
    (s.modCoin f).exactChange = s.exactChange := rfl
@[simp] theorem State.modCoin_payout (s : State) (f : CoinFront → CoinFront) : (s.modCoin f).payout = s.payout := rfl
@[simp] theorem State.modCoin_sels (s : State) (f : CoinFront → CoinFront) : (s.modCoin f).sels = s.sels := rfl
@[simp] theorem State.modCoin_queue (s : State) (f : CoinFront → CoinFront) : (s.modCoin f).queue = s.queue := rfl
@[simp] theorem State.modCoin_lastId (s : State) (f : CoinFront → CoinFront) : (s.modCoin f).lastId = s.lastId := rfl
@[simp] theorem State.modCoin_drive (s : State) (f : CoinFront → CoinFront) : (s.modCoin f).drive = s.drive := rfl
@[simp] theorem State.modCoin_fitted (s : State) (f : CoinFront → CoinFront) : (s.modCoin f).fitted = s.fitted := rfl
@[simp] theorem State.modCoin_blind (s : State) (f : CoinFront → CoinFront) : (s.modCoin f).blind = s.blind := rfl
@[simp] theorem State.modCoin_lateDrop (s : State) (f : CoinFront → CoinFront) : (s.modCoin f).lateDrop = s.lateDrop := rfl
@[simp] theorem State.modCoin_cams (s : State) (f : CoinFront → CoinFront) : (s.modCoin f).cams = s.cams := rfl
@[simp] theorem State.modCoin_card (s : State) (f : CoinFront → CoinFront) : (s.modCoin f).card = s.card := rfl
@[simp] theorem State.modCoin_lapsed (s : State) (f : CoinFront → CoinFront) : (s.modCoin f).lapsed = s.lapsed := rfl
@[simp] theorem State.modCoin_cooling (s : State) (f : CoinFront → CoinFront) : (s.modCoin f).cooling = s.cooling := rfl
@[simp] theorem State.modCoin_safety (s : State) (f : CoinFront → CoinFront) : (s.modCoin f).safety = s.safety := rfl
@[simp] theorem State.modCoin_claims (s : State) (f : CoinFront → CoinFront) : (s.modCoin f).claims = s.claims := rfl
@[simp] theorem State.modCoin_supply (s : State) (f : CoinFront → CoinFront) : (s.modCoin f).supply = s.supply := rfl
@[simp] theorem State.modCoin_holder (s : State) (f : CoinFront → CoinFront) : (s.modCoin f).holder = s.holder := rfl
@[simp] theorem State.modCoin_doorOpen (s : State) (f : CoinFront → CoinFront) : (s.modCoin f).doorOpen = s.doorOpen := rfl
@[simp] theorem State.modCoin_lifetime (s : State) (f : CoinFront → CoinFront) : (s.modCoin f).lifetime = s.lifetime := rfl
@[simp] theorem State.modCoin_interim (s : State) (f : CoinFront → CoinFront) : (s.modCoin f).interim = s.interim := rfl
@[simp] theorem State.modCoin_out2 (s : State) (f : CoinFront → CoinFront) : (s.modCoin f).out2 = s.out2 := rfl
@[simp] theorem State.modCoin_out3 (s : State) (f : CoinFront → CoinFront) : (s.modCoin f).out3 = s.out3 := rfl
@[simp] theorem State.modCoin_free (s : State) (f : CoinFront → CoinFront) : (s.modCoin f).free = s.free := rfl

/-! ## modPayout -/

@[simp] theorem State.modPayout_pending (s : State) (f : Payout → Payout) : (s.modPayout f).pending = s.pending := rfl
@[simp] theorem State.modPayout_now (s : State) (f : Payout → Payout) : (s.modPayout f).now = s.now := rfl
@[simp] theorem State.modPayout_power (s : State) (f : Payout → Payout) : (s.modPayout f).power = s.power := rfl
@[simp] theorem State.modPayout_resetAsserted (s : State) (f : Payout → Payout) :
    (s.modPayout f).resetAsserted = s.resetAsserted := rfl
@[simp] theorem State.modPayout_startAfter (s : State) (f : Payout → Payout) : (s.modPayout f).startAfter = s.startAfter := rfl
@[simp] theorem State.modPayout_settings (s : State) (f : Payout → Payout) : (s.modPayout f).settings = s.settings := rfl
@[simp] theorem State.modPayout_store (s : State) (f : Payout → Payout) : (s.modPayout f).store = s.store := rfl
@[simp] theorem State.modPayout_links (s : State) (f : Payout → Payout) : (s.modPayout f).links = s.links := rfl
@[simp] theorem State.modPayout_credit (s : State) (f : Payout → Payout) : (s.modPayout f).credit = s.credit := rfl
@[simp] theorem State.modPayout_coin (s : State) (f : Payout → Payout) : (s.modPayout f).coin = s.coin := rfl
@[simp] theorem State.modPayout_tubes (s : State) (f : Payout → Payout) : (s.modPayout f).tubes = s.tubes := rfl
@[simp] theorem State.modPayout_exactChange (s : State) (f : Payout → Payout) : (s.modPayout f).exactChange = s.exactChange := rfl
@[simp] theorem State.modPayout_payout (s : State) (f : Payout → Payout) : (s.modPayout f).payout = f s.payout := rfl
@[simp] theorem State.modPayout_sels (s : State) (f : Payout → Payout) : (s.modPayout f).sels = s.sels := rfl
@[simp] theorem State.modPayout_queue (s : State) (f : Payout → Payout) : (s.modPayout f).queue = s.queue := rfl
@[simp] theorem State.modPayout_lastId (s : State) (f : Payout → Payout) : (s.modPayout f).lastId = s.lastId := rfl
@[simp] theorem State.modPayout_drive (s : State) (f : Payout → Payout) : (s.modPayout f).drive = s.drive := rfl
@[simp] theorem State.modPayout_fitted (s : State) (f : Payout → Payout) : (s.modPayout f).fitted = s.fitted := rfl
@[simp] theorem State.modPayout_blind (s : State) (f : Payout → Payout) : (s.modPayout f).blind = s.blind := rfl
@[simp] theorem State.modPayout_lateDrop (s : State) (f : Payout → Payout) : (s.modPayout f).lateDrop = s.lateDrop := rfl
@[simp] theorem State.modPayout_cams (s : State) (f : Payout → Payout) : (s.modPayout f).cams = s.cams := rfl
@[simp] theorem State.modPayout_card (s : State) (f : Payout → Payout) : (s.modPayout f).card = s.card := rfl
@[simp] theorem State.modPayout_lapsed (s : State) (f : Payout → Payout) : (s.modPayout f).lapsed = s.lapsed := rfl
@[simp] theorem State.modPayout_cooling (s : State) (f : Payout → Payout) : (s.modPayout f).cooling = s.cooling := rfl
@[simp] theorem State.modPayout_safety (s : State) (f : Payout → Payout) : (s.modPayout f).safety = s.safety := rfl
@[simp] theorem State.modPayout_claims (s : State) (f : Payout → Payout) : (s.modPayout f).claims = s.claims := rfl
@[simp] theorem State.modPayout_supply (s : State) (f : Payout → Payout) : (s.modPayout f).supply = s.supply := rfl
@[simp] theorem State.modPayout_holder (s : State) (f : Payout → Payout) : (s.modPayout f).holder = s.holder := rfl
@[simp] theorem State.modPayout_doorOpen (s : State) (f : Payout → Payout) : (s.modPayout f).doorOpen = s.doorOpen := rfl
@[simp] theorem State.modPayout_lifetime (s : State) (f : Payout → Payout) : (s.modPayout f).lifetime = s.lifetime := rfl
@[simp] theorem State.modPayout_interim (s : State) (f : Payout → Payout) : (s.modPayout f).interim = s.interim := rfl
@[simp] theorem State.modPayout_out2 (s : State) (f : Payout → Payout) : (s.modPayout f).out2 = s.out2 := rfl
@[simp] theorem State.modPayout_out3 (s : State) (f : Payout → Payout) : (s.modPayout f).out3 = s.out3 := rfl
@[simp] theorem State.modPayout_free (s : State) (f : Payout → Payout) : (s.modPayout f).free = s.free := rfl

/-! ## modDrive -/

@[simp] theorem State.modDrive_pending (s : State) (f : Drive → Drive) : (s.modDrive f).pending = s.pending := rfl
@[simp] theorem State.modDrive_now (s : State) (f : Drive → Drive) : (s.modDrive f).now = s.now := rfl
@[simp] theorem State.modDrive_power (s : State) (f : Drive → Drive) : (s.modDrive f).power = s.power := rfl
@[simp] theorem State.modDrive_resetAsserted (s : State) (f : Drive → Drive) :
    (s.modDrive f).resetAsserted = s.resetAsserted := rfl
@[simp] theorem State.modDrive_startAfter (s : State) (f : Drive → Drive) : (s.modDrive f).startAfter = s.startAfter := rfl
@[simp] theorem State.modDrive_settings (s : State) (f : Drive → Drive) : (s.modDrive f).settings = s.settings := rfl
@[simp] theorem State.modDrive_store (s : State) (f : Drive → Drive) : (s.modDrive f).store = s.store := rfl
@[simp] theorem State.modDrive_links (s : State) (f : Drive → Drive) : (s.modDrive f).links = s.links := rfl
@[simp] theorem State.modDrive_credit (s : State) (f : Drive → Drive) : (s.modDrive f).credit = s.credit := rfl
@[simp] theorem State.modDrive_coin (s : State) (f : Drive → Drive) : (s.modDrive f).coin = s.coin := rfl
@[simp] theorem State.modDrive_tubes (s : State) (f : Drive → Drive) : (s.modDrive f).tubes = s.tubes := rfl
@[simp] theorem State.modDrive_exactChange (s : State) (f : Drive → Drive) : (s.modDrive f).exactChange = s.exactChange := rfl
@[simp] theorem State.modDrive_payout (s : State) (f : Drive → Drive) : (s.modDrive f).payout = s.payout := rfl
@[simp] theorem State.modDrive_sels (s : State) (f : Drive → Drive) : (s.modDrive f).sels = s.sels := rfl
@[simp] theorem State.modDrive_queue (s : State) (f : Drive → Drive) : (s.modDrive f).queue = s.queue := rfl
@[simp] theorem State.modDrive_lastId (s : State) (f : Drive → Drive) : (s.modDrive f).lastId = s.lastId := rfl
@[simp] theorem State.modDrive_drive (s : State) (f : Drive → Drive) : (s.modDrive f).drive = f s.drive := rfl
@[simp] theorem State.modDrive_fitted (s : State) (f : Drive → Drive) : (s.modDrive f).fitted = s.fitted := rfl
@[simp] theorem State.modDrive_blind (s : State) (f : Drive → Drive) : (s.modDrive f).blind = s.blind := rfl
@[simp] theorem State.modDrive_lateDrop (s : State) (f : Drive → Drive) : (s.modDrive f).lateDrop = s.lateDrop := rfl
@[simp] theorem State.modDrive_cams (s : State) (f : Drive → Drive) : (s.modDrive f).cams = s.cams := rfl
@[simp] theorem State.modDrive_card (s : State) (f : Drive → Drive) : (s.modDrive f).card = s.card := rfl
@[simp] theorem State.modDrive_lapsed (s : State) (f : Drive → Drive) : (s.modDrive f).lapsed = s.lapsed := rfl
@[simp] theorem State.modDrive_cooling (s : State) (f : Drive → Drive) : (s.modDrive f).cooling = s.cooling := rfl
@[simp] theorem State.modDrive_safety (s : State) (f : Drive → Drive) : (s.modDrive f).safety = s.safety := rfl
@[simp] theorem State.modDrive_claims (s : State) (f : Drive → Drive) : (s.modDrive f).claims = s.claims := rfl
@[simp] theorem State.modDrive_supply (s : State) (f : Drive → Drive) : (s.modDrive f).supply = s.supply := rfl
@[simp] theorem State.modDrive_holder (s : State) (f : Drive → Drive) : (s.modDrive f).holder = s.holder := rfl
@[simp] theorem State.modDrive_doorOpen (s : State) (f : Drive → Drive) : (s.modDrive f).doorOpen = s.doorOpen := rfl
@[simp] theorem State.modDrive_lifetime (s : State) (f : Drive → Drive) : (s.modDrive f).lifetime = s.lifetime := rfl
@[simp] theorem State.modDrive_interim (s : State) (f : Drive → Drive) : (s.modDrive f).interim = s.interim := rfl
@[simp] theorem State.modDrive_out2 (s : State) (f : Drive → Drive) : (s.modDrive f).out2 = s.out2 := rfl
@[simp] theorem State.modDrive_out3 (s : State) (f : Drive → Drive) : (s.modDrive f).out3 = s.out3 := rfl
@[simp] theorem State.modDrive_free (s : State) (f : Drive → Drive) : (s.modDrive f).free = s.free := rfl

/-! ## modOrder -/

@[simp] theorem State.modOrder_pending (s : State) (id : Nat) (f : Order → Order) : (s.modOrder id f).pending = s.pending := rfl
@[simp] theorem State.modOrder_now (s : State) (id : Nat) (f : Order → Order) : (s.modOrder id f).now = s.now := rfl
@[simp] theorem State.modOrder_power (s : State) (id : Nat) (f : Order → Order) : (s.modOrder id f).power = s.power := rfl
@[simp] theorem State.modOrder_resetAsserted (s : State) (id : Nat) (f : Order → Order) :
    (s.modOrder id f).resetAsserted = s.resetAsserted := rfl
@[simp] theorem State.modOrder_startAfter (s : State) (id : Nat) (f : Order → Order) :
    (s.modOrder id f).startAfter = s.startAfter := rfl
@[simp] theorem State.modOrder_settings (s : State) (id : Nat) (f : Order → Order) :
    (s.modOrder id f).settings = s.settings := rfl
@[simp] theorem State.modOrder_store (s : State) (id : Nat) (f : Order → Order) : (s.modOrder id f).store = s.store := rfl
@[simp] theorem State.modOrder_links (s : State) (id : Nat) (f : Order → Order) : (s.modOrder id f).links = s.links := rfl
@[simp] theorem State.modOrder_credit (s : State) (id : Nat) (f : Order → Order) : (s.modOrder id f).credit = s.credit := rfl
@[simp] theorem State.modOrder_coin (s : State) (id : Nat) (f : Order → Order) : (s.modOrder id f).coin = s.coin := rfl
@[simp] theorem State.modOrder_tubes (s : State) (id : Nat) (f : Order → Order) : (s.modOrder id f).tubes = s.tubes := rfl
@[simp] theorem State.modOrder_exactChange (s : State) (id : Nat) (f : Order → Order) :
    (s.modOrder id f).exactChange = s.exactChange := rfl
@[simp] theorem State.modOrder_payout (s : State) (id : Nat) (f : Order → Order) : (s.modOrder id f).payout = s.payout := rfl
@[simp] theorem State.modOrder_sels (s : State) (id : Nat) (f : Order → Order) : (s.modOrder id f).sels = s.sels := rfl
@[simp] theorem State.modOrder_queue (s : State) (id : Nat) (f : Order → Order) :
    (s.modOrder id f).queue = s.queue.map fun o => if o.id = id then f o else o := rfl
@[simp] theorem State.modOrder_lastId (s : State) (id : Nat) (f : Order → Order) : (s.modOrder id f).lastId = s.lastId := rfl
@[simp] theorem State.modOrder_drive (s : State) (id : Nat) (f : Order → Order) : (s.modOrder id f).drive = s.drive := rfl
@[simp] theorem State.modOrder_fitted (s : State) (id : Nat) (f : Order → Order) : (s.modOrder id f).fitted = s.fitted := rfl
@[simp] theorem State.modOrder_blind (s : State) (id : Nat) (f : Order → Order) : (s.modOrder id f).blind = s.blind := rfl
@[simp] theorem State.modOrder_lateDrop (s : State) (id : Nat) (f : Order → Order) :
    (s.modOrder id f).lateDrop = s.lateDrop := rfl
@[simp] theorem State.modOrder_cams (s : State) (id : Nat) (f : Order → Order) : (s.modOrder id f).cams = s.cams := rfl
@[simp] theorem State.modOrder_card (s : State) (id : Nat) (f : Order → Order) : (s.modOrder id f).card = s.card := rfl
@[simp] theorem State.modOrder_lapsed (s : State) (id : Nat) (f : Order → Order) : (s.modOrder id f).lapsed = s.lapsed := rfl
@[simp] theorem State.modOrder_cooling (s : State) (id : Nat) (f : Order → Order) : (s.modOrder id f).cooling = s.cooling := rfl
@[simp] theorem State.modOrder_safety (s : State) (id : Nat) (f : Order → Order) : (s.modOrder id f).safety = s.safety := rfl
@[simp] theorem State.modOrder_claims (s : State) (id : Nat) (f : Order → Order) : (s.modOrder id f).claims = s.claims := rfl
@[simp] theorem State.modOrder_supply (s : State) (id : Nat) (f : Order → Order) : (s.modOrder id f).supply = s.supply := rfl
@[simp] theorem State.modOrder_holder (s : State) (id : Nat) (f : Order → Order) : (s.modOrder id f).holder = s.holder := rfl
@[simp] theorem State.modOrder_doorOpen (s : State) (id : Nat) (f : Order → Order) :
    (s.modOrder id f).doorOpen = s.doorOpen := rfl
@[simp] theorem State.modOrder_lifetime (s : State) (id : Nat) (f : Order → Order) :
    (s.modOrder id f).lifetime = s.lifetime := rfl
@[simp] theorem State.modOrder_interim (s : State) (id : Nat) (f : Order → Order) : (s.modOrder id f).interim = s.interim := rfl
@[simp] theorem State.modOrder_out2 (s : State) (id : Nat) (f : Order → Order) : (s.modOrder id f).out2 = s.out2 := rfl
@[simp] theorem State.modOrder_out3 (s : State) (id : Nat) (f : Order → Order) : (s.modOrder id f).out3 = s.out3 := rfl
@[simp] theorem State.modOrder_free (s : State) (id : Nat) (f : Order → Order) : (s.modOrder id f).free = s.free := rfl

/-! ## modCard -/

@[simp] theorem State.modCard_pending (s : State) (f : CardSession → CardSession) : (s.modCard f).pending = s.pending := rfl
@[simp] theorem State.modCard_now (s : State) (f : CardSession → CardSession) : (s.modCard f).now = s.now := rfl
@[simp] theorem State.modCard_power (s : State) (f : CardSession → CardSession) : (s.modCard f).power = s.power := rfl
@[simp] theorem State.modCard_resetAsserted (s : State) (f : CardSession → CardSession) :
    (s.modCard f).resetAsserted = s.resetAsserted := rfl
@[simp] theorem State.modCard_startAfter (s : State) (f : CardSession → CardSession) :
    (s.modCard f).startAfter = s.startAfter := rfl
@[simp] theorem State.modCard_settings (s : State) (f : CardSession → CardSession) : (s.modCard f).settings = s.settings := rfl
@[simp] theorem State.modCard_store (s : State) (f : CardSession → CardSession) : (s.modCard f).store = s.store := rfl
@[simp] theorem State.modCard_links (s : State) (f : CardSession → CardSession) : (s.modCard f).links = s.links := rfl
@[simp] theorem State.modCard_credit (s : State) (f : CardSession → CardSession) : (s.modCard f).credit = s.credit := rfl
@[simp] theorem State.modCard_coin (s : State) (f : CardSession → CardSession) : (s.modCard f).coin = s.coin := rfl
@[simp] theorem State.modCard_tubes (s : State) (f : CardSession → CardSession) : (s.modCard f).tubes = s.tubes := rfl
@[simp] theorem State.modCard_exactChange (s : State) (f : CardSession → CardSession) :
    (s.modCard f).exactChange = s.exactChange := rfl
@[simp] theorem State.modCard_payout (s : State) (f : CardSession → CardSession) : (s.modCard f).payout = s.payout := rfl
@[simp] theorem State.modCard_sels (s : State) (f : CardSession → CardSession) : (s.modCard f).sels = s.sels := rfl
@[simp] theorem State.modCard_queue (s : State) (f : CardSession → CardSession) : (s.modCard f).queue = s.queue := rfl
@[simp] theorem State.modCard_lastId (s : State) (f : CardSession → CardSession) : (s.modCard f).lastId = s.lastId := rfl
@[simp] theorem State.modCard_drive (s : State) (f : CardSession → CardSession) : (s.modCard f).drive = s.drive := rfl
@[simp] theorem State.modCard_fitted (s : State) (f : CardSession → CardSession) : (s.modCard f).fitted = s.fitted := rfl
@[simp] theorem State.modCard_blind (s : State) (f : CardSession → CardSession) : (s.modCard f).blind = s.blind := rfl
@[simp] theorem State.modCard_lateDrop (s : State) (f : CardSession → CardSession) : (s.modCard f).lateDrop = s.lateDrop := rfl
@[simp] theorem State.modCard_cams (s : State) (f : CardSession → CardSession) : (s.modCard f).cams = s.cams := rfl
@[simp] theorem State.modCard_card (s : State) (f : CardSession → CardSession) : (s.modCard f).card = s.card.map f := rfl
@[simp] theorem State.modCard_lapsed (s : State) (f : CardSession → CardSession) : (s.modCard f).lapsed = s.lapsed := rfl
@[simp] theorem State.modCard_cooling (s : State) (f : CardSession → CardSession) : (s.modCard f).cooling = s.cooling := rfl
@[simp] theorem State.modCard_safety (s : State) (f : CardSession → CardSession) : (s.modCard f).safety = s.safety := rfl
@[simp] theorem State.modCard_claims (s : State) (f : CardSession → CardSession) : (s.modCard f).claims = s.claims := rfl
@[simp] theorem State.modCard_supply (s : State) (f : CardSession → CardSession) : (s.modCard f).supply = s.supply := rfl
@[simp] theorem State.modCard_holder (s : State) (f : CardSession → CardSession) : (s.modCard f).holder = s.holder := rfl
@[simp] theorem State.modCard_doorOpen (s : State) (f : CardSession → CardSession) : (s.modCard f).doorOpen = s.doorOpen := rfl
@[simp] theorem State.modCard_lifetime (s : State) (f : CardSession → CardSession) : (s.modCard f).lifetime = s.lifetime := rfl
@[simp] theorem State.modCard_interim (s : State) (f : CardSession → CardSession) : (s.modCard f).interim = s.interim := rfl
@[simp] theorem State.modCard_out2 (s : State) (f : CardSession → CardSession) : (s.modCard f).out2 = s.out2 := rfl
@[simp] theorem State.modCard_out3 (s : State) (f : CardSession → CardSession) : (s.modCard f).out3 = s.out3 := rfl
@[simp] theorem State.modCard_free (s : State) (f : CardSession → CardSession) : (s.modCard f).free = s.free := rfl

/-! ## modCooling -/

@[simp] theorem State.modCooling_pending (s : State) (f : Cooling → Cooling) : (s.modCooling f).pending = s.pending := rfl
@[simp] theorem State.modCooling_now (s : State) (f : Cooling → Cooling) : (s.modCooling f).now = s.now := rfl
@[simp] theorem State.modCooling_power (s : State) (f : Cooling → Cooling) : (s.modCooling f).power = s.power := rfl
@[simp] theorem State.modCooling_resetAsserted (s : State) (f : Cooling → Cooling) :
    (s.modCooling f).resetAsserted = s.resetAsserted := rfl
@[simp] theorem State.modCooling_startAfter (s : State) (f : Cooling → Cooling) :
    (s.modCooling f).startAfter = s.startAfter := rfl
@[simp] theorem State.modCooling_settings (s : State) (f : Cooling → Cooling) : (s.modCooling f).settings = s.settings := rfl
@[simp] theorem State.modCooling_store (s : State) (f : Cooling → Cooling) : (s.modCooling f).store = s.store := rfl
@[simp] theorem State.modCooling_links (s : State) (f : Cooling → Cooling) : (s.modCooling f).links = s.links := rfl
@[simp] theorem State.modCooling_credit (s : State) (f : Cooling → Cooling) : (s.modCooling f).credit = s.credit := rfl
@[simp] theorem State.modCooling_coin (s : State) (f : Cooling → Cooling) : (s.modCooling f).coin = s.coin := rfl
@[simp] theorem State.modCooling_tubes (s : State) (f : Cooling → Cooling) : (s.modCooling f).tubes = s.tubes := rfl
@[simp] theorem State.modCooling_exactChange (s : State) (f : Cooling → Cooling) :
    (s.modCooling f).exactChange = s.exactChange := rfl
@[simp] theorem State.modCooling_payout (s : State) (f : Cooling → Cooling) : (s.modCooling f).payout = s.payout := rfl
@[simp] theorem State.modCooling_sels (s : State) (f : Cooling → Cooling) : (s.modCooling f).sels = s.sels := rfl
@[simp] theorem State.modCooling_queue (s : State) (f : Cooling → Cooling) : (s.modCooling f).queue = s.queue := rfl
@[simp] theorem State.modCooling_lastId (s : State) (f : Cooling → Cooling) : (s.modCooling f).lastId = s.lastId := rfl
@[simp] theorem State.modCooling_drive (s : State) (f : Cooling → Cooling) : (s.modCooling f).drive = s.drive := rfl
@[simp] theorem State.modCooling_fitted (s : State) (f : Cooling → Cooling) : (s.modCooling f).fitted = s.fitted := rfl
@[simp] theorem State.modCooling_blind (s : State) (f : Cooling → Cooling) : (s.modCooling f).blind = s.blind := rfl
@[simp] theorem State.modCooling_lateDrop (s : State) (f : Cooling → Cooling) : (s.modCooling f).lateDrop = s.lateDrop := rfl
@[simp] theorem State.modCooling_cams (s : State) (f : Cooling → Cooling) : (s.modCooling f).cams = s.cams := rfl
@[simp] theorem State.modCooling_card (s : State) (f : Cooling → Cooling) : (s.modCooling f).card = s.card := rfl
@[simp] theorem State.modCooling_lapsed (s : State) (f : Cooling → Cooling) : (s.modCooling f).lapsed = s.lapsed := rfl
@[simp] theorem State.modCooling_cooling (s : State) (f : Cooling → Cooling) : (s.modCooling f).cooling = f s.cooling := rfl
@[simp] theorem State.modCooling_safety (s : State) (f : Cooling → Cooling) : (s.modCooling f).safety = s.safety := rfl
@[simp] theorem State.modCooling_claims (s : State) (f : Cooling → Cooling) : (s.modCooling f).claims = s.claims := rfl
@[simp] theorem State.modCooling_supply (s : State) (f : Cooling → Cooling) : (s.modCooling f).supply = s.supply := rfl
@[simp] theorem State.modCooling_holder (s : State) (f : Cooling → Cooling) : (s.modCooling f).holder = s.holder := rfl
@[simp] theorem State.modCooling_doorOpen (s : State) (f : Cooling → Cooling) : (s.modCooling f).doorOpen = s.doorOpen := rfl
@[simp] theorem State.modCooling_lifetime (s : State) (f : Cooling → Cooling) : (s.modCooling f).lifetime = s.lifetime := rfl
@[simp] theorem State.modCooling_interim (s : State) (f : Cooling → Cooling) : (s.modCooling f).interim = s.interim := rfl
@[simp] theorem State.modCooling_out2 (s : State) (f : Cooling → Cooling) : (s.modCooling f).out2 = s.out2 := rfl
@[simp] theorem State.modCooling_out3 (s : State) (f : Cooling → Cooling) : (s.modCooling f).out3 = s.out3 := rfl
@[simp] theorem State.modCooling_free (s : State) (f : Cooling → Cooling) : (s.modCooling f).free = s.free := rfl

/-! ## modSafety -/

@[simp] theorem State.modSafety_pending (s : State) (f : Safety → Safety) : (s.modSafety f).pending = s.pending := rfl
@[simp] theorem State.modSafety_now (s : State) (f : Safety → Safety) : (s.modSafety f).now = s.now := rfl
@[simp] theorem State.modSafety_power (s : State) (f : Safety → Safety) : (s.modSafety f).power = s.power := rfl
@[simp] theorem State.modSafety_resetAsserted (s : State) (f : Safety → Safety) :
    (s.modSafety f).resetAsserted = s.resetAsserted := rfl
@[simp] theorem State.modSafety_startAfter (s : State) (f : Safety → Safety) : (s.modSafety f).startAfter = s.startAfter := rfl
@[simp] theorem State.modSafety_settings (s : State) (f : Safety → Safety) : (s.modSafety f).settings = s.settings := rfl
@[simp] theorem State.modSafety_store (s : State) (f : Safety → Safety) : (s.modSafety f).store = s.store := rfl
@[simp] theorem State.modSafety_links (s : State) (f : Safety → Safety) : (s.modSafety f).links = s.links := rfl
@[simp] theorem State.modSafety_credit (s : State) (f : Safety → Safety) : (s.modSafety f).credit = s.credit := rfl
@[simp] theorem State.modSafety_coin (s : State) (f : Safety → Safety) : (s.modSafety f).coin = s.coin := rfl
@[simp] theorem State.modSafety_tubes (s : State) (f : Safety → Safety) : (s.modSafety f).tubes = s.tubes := rfl
@[simp] theorem State.modSafety_exactChange (s : State) (f : Safety → Safety) : (s.modSafety f).exactChange = s.exactChange := rfl
@[simp] theorem State.modSafety_payout (s : State) (f : Safety → Safety) : (s.modSafety f).payout = s.payout := rfl
@[simp] theorem State.modSafety_sels (s : State) (f : Safety → Safety) : (s.modSafety f).sels = s.sels := rfl
@[simp] theorem State.modSafety_queue (s : State) (f : Safety → Safety) : (s.modSafety f).queue = s.queue := rfl
@[simp] theorem State.modSafety_lastId (s : State) (f : Safety → Safety) : (s.modSafety f).lastId = s.lastId := rfl
@[simp] theorem State.modSafety_drive (s : State) (f : Safety → Safety) : (s.modSafety f).drive = s.drive := rfl
@[simp] theorem State.modSafety_fitted (s : State) (f : Safety → Safety) : (s.modSafety f).fitted = s.fitted := rfl
@[simp] theorem State.modSafety_blind (s : State) (f : Safety → Safety) : (s.modSafety f).blind = s.blind := rfl
@[simp] theorem State.modSafety_lateDrop (s : State) (f : Safety → Safety) : (s.modSafety f).lateDrop = s.lateDrop := rfl
@[simp] theorem State.modSafety_cams (s : State) (f : Safety → Safety) : (s.modSafety f).cams = s.cams := rfl
@[simp] theorem State.modSafety_card (s : State) (f : Safety → Safety) : (s.modSafety f).card = s.card := rfl
@[simp] theorem State.modSafety_lapsed (s : State) (f : Safety → Safety) : (s.modSafety f).lapsed = s.lapsed := rfl
@[simp] theorem State.modSafety_cooling (s : State) (f : Safety → Safety) : (s.modSafety f).cooling = s.cooling := rfl
@[simp] theorem State.modSafety_safety (s : State) (f : Safety → Safety) : (s.modSafety f).safety = f s.safety := rfl
@[simp] theorem State.modSafety_claims (s : State) (f : Safety → Safety) : (s.modSafety f).claims = s.claims := rfl
@[simp] theorem State.modSafety_supply (s : State) (f : Safety → Safety) : (s.modSafety f).supply = s.supply := rfl
@[simp] theorem State.modSafety_holder (s : State) (f : Safety → Safety) : (s.modSafety f).holder = s.holder := rfl
@[simp] theorem State.modSafety_doorOpen (s : State) (f : Safety → Safety) : (s.modSafety f).doorOpen = s.doorOpen := rfl
@[simp] theorem State.modSafety_lifetime (s : State) (f : Safety → Safety) : (s.modSafety f).lifetime = s.lifetime := rfl
@[simp] theorem State.modSafety_interim (s : State) (f : Safety → Safety) : (s.modSafety f).interim = s.interim := rfl
@[simp] theorem State.modSafety_out2 (s : State) (f : Safety → Safety) : (s.modSafety f).out2 = s.out2 := rfl
@[simp] theorem State.modSafety_out3 (s : State) (f : Safety → Safety) : (s.modSafety f).out3 = s.out3 := rfl
@[simp] theorem State.modSafety_free (s : State) (f : Safety → Safety) : (s.modSafety f).free = s.free := rfl

/-! ## setClaims -/

@[simp] theorem State.setClaims_pending (s : State) (cs : List Claim) : (s.setClaims cs).pending = s.pending := rfl
@[simp] theorem State.setClaims_now (s : State) (cs : List Claim) : (s.setClaims cs).now = s.now := rfl
@[simp] theorem State.setClaims_power (s : State) (cs : List Claim) : (s.setClaims cs).power = s.power := rfl
@[simp] theorem State.setClaims_resetAsserted (s : State) (cs : List Claim) :
    (s.setClaims cs).resetAsserted = s.resetAsserted := rfl
@[simp] theorem State.setClaims_startAfter (s : State) (cs : List Claim) : (s.setClaims cs).startAfter = s.startAfter := rfl
@[simp] theorem State.setClaims_settings (s : State) (cs : List Claim) : (s.setClaims cs).settings = s.settings := rfl
@[simp] theorem State.setClaims_store (s : State) (cs : List Claim) : (s.setClaims cs).store = s.store := rfl
@[simp] theorem State.setClaims_links (s : State) (cs : List Claim) : (s.setClaims cs).links = s.links := rfl
@[simp] theorem State.setClaims_credit (s : State) (cs : List Claim) : (s.setClaims cs).credit = s.credit := rfl
@[simp] theorem State.setClaims_coin (s : State) (cs : List Claim) : (s.setClaims cs).coin = s.coin := rfl
@[simp] theorem State.setClaims_tubes (s : State) (cs : List Claim) : (s.setClaims cs).tubes = s.tubes := rfl
@[simp] theorem State.setClaims_exactChange (s : State) (cs : List Claim) : (s.setClaims cs).exactChange = s.exactChange := rfl
@[simp] theorem State.setClaims_payout (s : State) (cs : List Claim) : (s.setClaims cs).payout = s.payout := rfl
@[simp] theorem State.setClaims_sels (s : State) (cs : List Claim) : (s.setClaims cs).sels = s.sels := rfl
@[simp] theorem State.setClaims_queue (s : State) (cs : List Claim) : (s.setClaims cs).queue = s.queue := rfl
@[simp] theorem State.setClaims_lastId (s : State) (cs : List Claim) : (s.setClaims cs).lastId = s.lastId := rfl
@[simp] theorem State.setClaims_drive (s : State) (cs : List Claim) : (s.setClaims cs).drive = s.drive := rfl
@[simp] theorem State.setClaims_fitted (s : State) (cs : List Claim) : (s.setClaims cs).fitted = s.fitted := rfl
@[simp] theorem State.setClaims_blind (s : State) (cs : List Claim) : (s.setClaims cs).blind = s.blind := rfl
@[simp] theorem State.setClaims_lateDrop (s : State) (cs : List Claim) : (s.setClaims cs).lateDrop = s.lateDrop := rfl
@[simp] theorem State.setClaims_cams (s : State) (cs : List Claim) : (s.setClaims cs).cams = s.cams := rfl
@[simp] theorem State.setClaims_card (s : State) (cs : List Claim) : (s.setClaims cs).card = s.card := rfl
@[simp] theorem State.setClaims_lapsed (s : State) (cs : List Claim) : (s.setClaims cs).lapsed = s.lapsed := rfl
@[simp] theorem State.setClaims_cooling (s : State) (cs : List Claim) : (s.setClaims cs).cooling = s.cooling := rfl
@[simp] theorem State.setClaims_safety (s : State) (cs : List Claim) : (s.setClaims cs).safety = s.safety := rfl
@[simp] theorem State.setClaims_claims (s : State) (cs : List Claim) : (s.setClaims cs).claims = cs := rfl
@[simp] theorem State.setClaims_supply (s : State) (cs : List Claim) : (s.setClaims cs).supply = s.supply := rfl
@[simp] theorem State.setClaims_holder (s : State) (cs : List Claim) : (s.setClaims cs).holder = s.holder := rfl
@[simp] theorem State.setClaims_doorOpen (s : State) (cs : List Claim) : (s.setClaims cs).doorOpen = s.doorOpen := rfl
@[simp] theorem State.setClaims_lifetime (s : State) (cs : List Claim) : (s.setClaims cs).lifetime = s.lifetime := rfl
@[simp] theorem State.setClaims_interim (s : State) (cs : List Claim) : (s.setClaims cs).interim = s.interim := rfl
@[simp] theorem State.setClaims_out2 (s : State) (cs : List Claim) : (s.setClaims cs).out2 = s.out2 := rfl
@[simp] theorem State.setClaims_out3 (s : State) (cs : List Claim) : (s.setClaims cs).out3 = s.out3 := rfl
@[simp] theorem State.setClaims_free (s : State) (cs : List Claim) : (s.setClaims cs).free = s.free := rfl

/-! ## withPending -/

@[simp] theorem State.withPending_pending (s : State) (cs : List Instr) : (s.withPending cs).pending = cs := rfl
@[simp] theorem State.withPending_now (s : State) (cs : List Instr) : (s.withPending cs).now = s.now := rfl
@[simp] theorem State.withPending_power (s : State) (cs : List Instr) : (s.withPending cs).power = s.power := rfl
@[simp] theorem State.withPending_resetAsserted (s : State) (cs : List Instr) :
    (s.withPending cs).resetAsserted = s.resetAsserted := rfl
@[simp] theorem State.withPending_startAfter (s : State) (cs : List Instr) : (s.withPending cs).startAfter = s.startAfter := rfl
@[simp] theorem State.withPending_settings (s : State) (cs : List Instr) : (s.withPending cs).settings = s.settings := rfl
@[simp] theorem State.withPending_store (s : State) (cs : List Instr) : (s.withPending cs).store = s.store := rfl
@[simp] theorem State.withPending_links (s : State) (cs : List Instr) : (s.withPending cs).links = s.links := rfl
@[simp] theorem State.withPending_credit (s : State) (cs : List Instr) : (s.withPending cs).credit = s.credit := rfl
@[simp] theorem State.withPending_coin (s : State) (cs : List Instr) : (s.withPending cs).coin = s.coin := rfl
@[simp] theorem State.withPending_tubes (s : State) (cs : List Instr) : (s.withPending cs).tubes = s.tubes := rfl
@[simp] theorem State.withPending_exactChange (s : State) (cs : List Instr) :
    (s.withPending cs).exactChange = s.exactChange := rfl
@[simp] theorem State.withPending_payout (s : State) (cs : List Instr) : (s.withPending cs).payout = s.payout := rfl
@[simp] theorem State.withPending_sels (s : State) (cs : List Instr) : (s.withPending cs).sels = s.sels := rfl
@[simp] theorem State.withPending_queue (s : State) (cs : List Instr) : (s.withPending cs).queue = s.queue := rfl
@[simp] theorem State.withPending_lastId (s : State) (cs : List Instr) : (s.withPending cs).lastId = s.lastId := rfl
@[simp] theorem State.withPending_drive (s : State) (cs : List Instr) : (s.withPending cs).drive = s.drive := rfl
@[simp] theorem State.withPending_fitted (s : State) (cs : List Instr) : (s.withPending cs).fitted = s.fitted := rfl
@[simp] theorem State.withPending_blind (s : State) (cs : List Instr) : (s.withPending cs).blind = s.blind := rfl
@[simp] theorem State.withPending_lateDrop (s : State) (cs : List Instr) : (s.withPending cs).lateDrop = s.lateDrop := rfl
@[simp] theorem State.withPending_cams (s : State) (cs : List Instr) : (s.withPending cs).cams = s.cams := rfl
@[simp] theorem State.withPending_card (s : State) (cs : List Instr) : (s.withPending cs).card = s.card := rfl
@[simp] theorem State.withPending_lapsed (s : State) (cs : List Instr) : (s.withPending cs).lapsed = s.lapsed := rfl
@[simp] theorem State.withPending_cooling (s : State) (cs : List Instr) : (s.withPending cs).cooling = s.cooling := rfl
@[simp] theorem State.withPending_safety (s : State) (cs : List Instr) : (s.withPending cs).safety = s.safety := rfl
@[simp] theorem State.withPending_claims (s : State) (cs : List Instr) : (s.withPending cs).claims = s.claims := rfl
@[simp] theorem State.withPending_supply (s : State) (cs : List Instr) : (s.withPending cs).supply = s.supply := rfl
@[simp] theorem State.withPending_holder (s : State) (cs : List Instr) : (s.withPending cs).holder = s.holder := rfl
@[simp] theorem State.withPending_doorOpen (s : State) (cs : List Instr) : (s.withPending cs).doorOpen = s.doorOpen := rfl
@[simp] theorem State.withPending_lifetime (s : State) (cs : List Instr) : (s.withPending cs).lifetime = s.lifetime := rfl
@[simp] theorem State.withPending_interim (s : State) (cs : List Instr) : (s.withPending cs).interim = s.interim := rfl
@[simp] theorem State.withPending_out2 (s : State) (cs : List Instr) : (s.withPending cs).out2 = s.out2 := rfl
@[simp] theorem State.withPending_out3 (s : State) (cs : List Instr) : (s.withPending cs).out3 = s.out3 := rfl
@[simp] theorem State.withPending_free (s : State) (cs : List Instr) : (s.withPending cs).free = s.free := rfl

/-! ## useFree -/

@[simp] theorem State.useFree_pending (s : State) : (s.useFree).pending = s.pending := rfl
@[simp] theorem State.useFree_now (s : State) : (s.useFree).now = s.now := rfl
@[simp] theorem State.useFree_power (s : State) : (s.useFree).power = s.power := rfl
@[simp] theorem State.useFree_resetAsserted (s : State) : (s.useFree).resetAsserted = s.resetAsserted := rfl
@[simp] theorem State.useFree_startAfter (s : State) : (s.useFree).startAfter = s.startAfter := rfl
@[simp] theorem State.useFree_settings (s : State) : (s.useFree).settings = s.settings := rfl
@[simp] theorem State.useFree_store (s : State) : (s.useFree).store = s.store := rfl
@[simp] theorem State.useFree_links (s : State) : (s.useFree).links = s.links := rfl
@[simp] theorem State.useFree_credit (s : State) : (s.useFree).credit = s.credit := rfl
@[simp] theorem State.useFree_coin (s : State) : (s.useFree).coin = s.coin := rfl
@[simp] theorem State.useFree_tubes (s : State) : (s.useFree).tubes = s.tubes := rfl
@[simp] theorem State.useFree_exactChange (s : State) : (s.useFree).exactChange = s.exactChange := rfl
@[simp] theorem State.useFree_payout (s : State) : (s.useFree).payout = s.payout := rfl
@[simp] theorem State.useFree_sels (s : State) : (s.useFree).sels = s.sels := rfl
@[simp] theorem State.useFree_queue (s : State) : (s.useFree).queue = s.queue := rfl
@[simp] theorem State.useFree_lastId (s : State) : (s.useFree).lastId = s.lastId := rfl
@[simp] theorem State.useFree_drive (s : State) : (s.useFree).drive = s.drive := rfl
@[simp] theorem State.useFree_fitted (s : State) : (s.useFree).fitted = s.fitted := rfl
@[simp] theorem State.useFree_blind (s : State) : (s.useFree).blind = s.blind := rfl
@[simp] theorem State.useFree_lateDrop (s : State) : (s.useFree).lateDrop = s.lateDrop := rfl
@[simp] theorem State.useFree_cams (s : State) : (s.useFree).cams = s.cams := rfl
@[simp] theorem State.useFree_card (s : State) : (s.useFree).card = s.card := rfl
@[simp] theorem State.useFree_lapsed (s : State) : (s.useFree).lapsed = s.lapsed := rfl
@[simp] theorem State.useFree_cooling (s : State) : (s.useFree).cooling = s.cooling := rfl
@[simp] theorem State.useFree_safety (s : State) : (s.useFree).safety = s.safety := rfl
@[simp] theorem State.useFree_claims (s : State) : (s.useFree).claims = s.claims := rfl
@[simp] theorem State.useFree_supply (s : State) : (s.useFree).supply = s.supply := rfl
@[simp] theorem State.useFree_holder (s : State) : (s.useFree).holder = s.holder := rfl
@[simp] theorem State.useFree_doorOpen (s : State) : (s.useFree).doorOpen = s.doorOpen := rfl
@[simp] theorem State.useFree_lifetime (s : State) : (s.useFree).lifetime = s.lifetime := rfl
@[simp] theorem State.useFree_interim (s : State) : (s.useFree).interim = s.interim := rfl
@[simp] theorem State.useFree_out2 (s : State) : (s.useFree).out2 = s.out2 := rfl
@[simp] theorem State.useFree_out3 (s : State) : (s.useFree).out3 = s.out3 := rfl
@[simp] theorem State.useFree_free (s : State) : (s.useFree).free = s.free + 1 := rfl

/-! ## count -/

@[simp] theorem State.count_pending (s : State) (c : Counter) (n : Nat) : (s.count c n).pending = s.pending := rfl
@[simp] theorem State.count_now (s : State) (c : Counter) (n : Nat) : (s.count c n).now = s.now := rfl
@[simp] theorem State.count_power (s : State) (c : Counter) (n : Nat) : (s.count c n).power = s.power := rfl
@[simp] theorem State.count_resetAsserted (s : State) (c : Counter) (n : Nat) :
    (s.count c n).resetAsserted = s.resetAsserted := rfl
@[simp] theorem State.count_startAfter (s : State) (c : Counter) (n : Nat) : (s.count c n).startAfter = s.startAfter := rfl
@[simp] theorem State.count_settings (s : State) (c : Counter) (n : Nat) : (s.count c n).settings = s.settings := rfl
@[simp] theorem State.count_store (s : State) (c : Counter) (n : Nat) : (s.count c n).store = s.store := rfl
@[simp] theorem State.count_links (s : State) (c : Counter) (n : Nat) : (s.count c n).links = s.links := rfl
@[simp] theorem State.count_credit (s : State) (c : Counter) (n : Nat) : (s.count c n).credit = s.credit := rfl
@[simp] theorem State.count_coin (s : State) (c : Counter) (n : Nat) : (s.count c n).coin = s.coin := rfl
@[simp] theorem State.count_tubes (s : State) (c : Counter) (n : Nat) : (s.count c n).tubes = s.tubes := rfl
@[simp] theorem State.count_exactChange (s : State) (c : Counter) (n : Nat) : (s.count c n).exactChange = s.exactChange := rfl
@[simp] theorem State.count_payout (s : State) (c : Counter) (n : Nat) : (s.count c n).payout = s.payout := rfl
@[simp] theorem State.count_sels (s : State) (c : Counter) (n : Nat) : (s.count c n).sels = s.sels := rfl
@[simp] theorem State.count_queue (s : State) (c : Counter) (n : Nat) : (s.count c n).queue = s.queue := rfl
@[simp] theorem State.count_lastId (s : State) (c : Counter) (n : Nat) : (s.count c n).lastId = s.lastId := rfl
@[simp] theorem State.count_drive (s : State) (c : Counter) (n : Nat) : (s.count c n).drive = s.drive := rfl
@[simp] theorem State.count_fitted (s : State) (c : Counter) (n : Nat) : (s.count c n).fitted = s.fitted := rfl
@[simp] theorem State.count_blind (s : State) (c : Counter) (n : Nat) : (s.count c n).blind = s.blind := rfl
@[simp] theorem State.count_lateDrop (s : State) (c : Counter) (n : Nat) : (s.count c n).lateDrop = s.lateDrop := rfl
@[simp] theorem State.count_cams (s : State) (c : Counter) (n : Nat) : (s.count c n).cams = s.cams := rfl
@[simp] theorem State.count_card (s : State) (c : Counter) (n : Nat) : (s.count c n).card = s.card := rfl
@[simp] theorem State.count_lapsed (s : State) (c : Counter) (n : Nat) : (s.count c n).lapsed = s.lapsed := rfl
@[simp] theorem State.count_cooling (s : State) (c : Counter) (n : Nat) : (s.count c n).cooling = s.cooling := rfl
@[simp] theorem State.count_safety (s : State) (c : Counter) (n : Nat) : (s.count c n).safety = s.safety := rfl
@[simp] theorem State.count_claims (s : State) (c : Counter) (n : Nat) : (s.count c n).claims = s.claims := rfl
@[simp] theorem State.count_supply (s : State) (c : Counter) (n : Nat) : (s.count c n).supply = s.supply := rfl
@[simp] theorem State.count_holder (s : State) (c : Counter) (n : Nat) : (s.count c n).holder = s.holder := rfl
@[simp] theorem State.count_doorOpen (s : State) (c : Counter) (n : Nat) : (s.count c n).doorOpen = s.doorOpen := rfl
@[simp] theorem State.count_lifetime (s : State) (c : Counter) (n : Nat) :
    (s.count c n).lifetime = upd s.lifetime c.code (· + BitVec.ofNat 32 n) := rfl
@[simp] theorem State.count_interim (s : State) (c : Counter) (n : Nat) :
    (s.count c n).interim = upd s.interim c.code (· + BitVec.ofNat 32 n) := rfl
@[simp] theorem State.count_out2 (s : State) (c : Counter) (n : Nat) : (s.count c n).out2 = s.out2 := rfl
@[simp] theorem State.count_out3 (s : State) (c : Counter) (n : Nat) : (s.count c n).out3 = s.out3 := rfl
@[simp] theorem State.count_free (s : State) (c : Counter) (n : Nat) : (s.count c n).free = s.free := rfl

end Sys2Proof.Machine
end

