-- ==== Sys2Proof/Laws/Ops.lean ====
section
/-! SUPPORT. What each shared operation can do, said once: `<operation>_frame` names the fields it may change (all others are as they
were, by overwriting), the lemmas after it give each of the others, and the remaining lemmas say what the changed ones become. -/

namespace Sys2Proof.Machine

/-! ## Error flags and notices: only the link records change -/

/-- A set error flag: one link's flags grow by it. -/
theorem State.setError_spec (s : State) (l : Link) (f : ErrFlag) :
    s.setError l f = s.modPort l fun p => { p with errors := p.errors ||| f.mask } := rfl

/-- A pushed notice changes the link records alone. -/
theorem State.push_frame (s : State) (n : Notice) (l : Link) : { s.push n l with links := s.links } = s := rfl

/-- A pushed notice changes its own link alone. -/
theorem State.push_other (s : State) (n : Notice) (l m : Link) (h : l ≠ m) : (s.push n l).links[m] = s.links[m] := by
  have hv : l.val ≠ m.val := fun e => h (Fin.ext e)
  simp [State.push, hv]

/-- Notices pushed one after another change the link records alone. -/
theorem State.pushAll_frame (b : Link → Notice) (dest : List Link) :
    ∀ s : State, { dest.foldl (fun s l => s.push (b l) l) s with links := s.links } = s := by
  induction dest with
  | nil => intro s; rfl
  | cons l ls ih =>
    intro s
    have h := ih (s.push (b l) l)
    simp only [List.foldl_cons]
    exact (congrArg (fun t : State => { t with links := s.links }) h)

/-- A delivered notice changes the link records alone. -/
theorem State.deliver_frame (s : State) (b : NoticeBody) (dest : List Link) :
    { s.deliver b dest with links := s.links } = s := by
  cases dest with
  | nil => rfl
  | cons first rest =>
    have h1 := State.pushAll_frame (fun _ => ⟨b, none⟩) (first :: rest) s
    have h2 := State.pushAll_frame (fun _ => ⟨b, some first⟩) (s.mirrors b (first :: rest))
      ((first :: rest).foldl (fun s l => s.push ⟨b, none⟩ l) s)
    have h3 := congrArg (fun t : State => { t with links := s.links }) h2
    exact h3.trans h1

/-- A broadcast notice changes the link records alone. -/
theorem State.broadcast_frame (s : State) (b : NoticeBody) : { s.broadcast b with links := s.links } = s :=
  State.deliver_frame s b _

@[simp] theorem State.deliver_pending (s : State) (b : NoticeBody) (dest : List Link) : (s.deliver b dest).pending = s.pending := by
  have h := congrArg State.pending (State.deliver_frame s b dest); exact h
@[simp] theorem State.deliver_now (s : State) (b : NoticeBody) (dest : List Link) : (s.deliver b dest).now = s.now := by
  have h := congrArg State.now (State.deliver_frame s b dest); exact h
@[simp] theorem State.deliver_power (s : State) (b : NoticeBody) (dest : List Link) : (s.deliver b dest).power = s.power := by
  have h := congrArg State.power (State.deliver_frame s b dest); exact h
@[simp] theorem State.deliver_resetAsserted (s : State) (b : NoticeBody) (dest : List Link) : (s.deliver b dest).resetAsserted = s.resetAsserted := by
  have h := congrArg State.resetAsserted (State.deliver_frame s b dest); exact h
@[simp] theorem State.deliver_startAfter (s : State) (b : NoticeBody) (dest : List Link) : (s.deliver b dest).startAfter = s.startAfter := by
  have h := congrArg State.startAfter (State.deliver_frame s b dest); exact h
@[simp] theorem State.deliver_settings (s : State) (b : NoticeBody) (dest : List Link) : (s.deliver b dest).settings = s.settings := by
  have h := congrArg State.settings (State.deliver_frame s b dest); exact h
@[simp] theorem State.deliver_store (s : State) (b : NoticeBody) (dest : List Link) : (s.deliver b dest).store = s.store := by
  have h := congrArg State.store (State.deliver_frame s b dest); exact h
@[simp] theorem State.deliver_credit (s : State) (b : NoticeBody) (dest : List Link) : (s.deliver b dest).credit = s.credit := by
  have h := congrArg State.credit (State.deliver_frame s b dest); exact h
@[simp] theorem State.deliver_coin (s : State) (b : NoticeBody) (dest : List Link) : (s.deliver b dest).coin = s.coin := by
  have h := congrArg State.coin (State.deliver_frame s b dest); exact h
@[simp] theorem State.deliver_tubes (s : State) (b : NoticeBody) (dest : List Link) : (s.deliver b dest).tubes = s.tubes := by
  have h := congrArg State.tubes (State.deliver_frame s b dest); exact h
@[simp] theorem State.deliver_exactChange (s : State) (b : NoticeBody) (dest : List Link) : (s.deliver b dest).exactChange = s.exactChange := by
  have h := congrArg State.exactChange (State.deliver_frame s b dest); exact h
@[simp] theorem State.deliver_payout (s : State) (b : NoticeBody) (dest : List Link) : (s.deliver b dest).payout = s.payout := by
  have h := congrArg State.payout (State.deliver_frame s b dest); exact h
@[simp] theorem State.deliver_sels (s : State) (b : NoticeBody) (dest : List Link) : (s.deliver b dest).sels = s.sels := by
  have h := congrArg State.sels (State.deliver_frame s b dest); exact h
@[simp] theorem State.deliver_queue (s : State) (b : NoticeBody) (dest : List Link) : (s.deliver b dest).queue = s.queue := by
  have h := congrArg State.queue (State.deliver_frame s b dest); exact h
@[simp] theorem State.deliver_lastId (s : State) (b : NoticeBody) (dest : List Link) : (s.deliver b dest).lastId = s.lastId := by
  have h := congrArg State.lastId (State.deliver_frame s b dest); exact h
@[simp] theorem State.deliver_drive (s : State) (b : NoticeBody) (dest : List Link) : (s.deliver b dest).drive = s.drive := by
  have h := congrArg State.drive (State.deliver_frame s b dest); exact h
@[simp] theorem State.deliver_fitted (s : State) (b : NoticeBody) (dest : List Link) : (s.deliver b dest).fitted = s.fitted := by
  have h := congrArg State.fitted (State.deliver_frame s b dest); exact h
@[simp] theorem State.deliver_blind (s : State) (b : NoticeBody) (dest : List Link) : (s.deliver b dest).blind = s.blind := by
  have h := congrArg State.blind (State.deliver_frame s b dest); exact h
@[simp] theorem State.deliver_lateDrop (s : State) (b : NoticeBody) (dest : List Link) : (s.deliver b dest).lateDrop = s.lateDrop := by
  have h := congrArg State.lateDrop (State.deliver_frame s b dest); exact h
@[simp] theorem State.deliver_cams (s : State) (b : NoticeBody) (dest : List Link) : (s.deliver b dest).cams = s.cams := by
  have h := congrArg State.cams (State.deliver_frame s b dest); exact h
@[simp] theorem State.deliver_card (s : State) (b : NoticeBody) (dest : List Link) : (s.deliver b dest).card = s.card := by
  have h := congrArg State.card (State.deliver_frame s b dest); exact h
@[simp] theorem State.deliver_lapsed (s : State) (b : NoticeBody) (dest : List Link) : (s.deliver b dest).lapsed = s.lapsed := by
  have h := congrArg State.lapsed (State.deliver_frame s b dest); exact h
@[simp] theorem State.deliver_cooling (s : State) (b : NoticeBody) (dest : List Link) : (s.deliver b dest).cooling = s.cooling := by
  have h := congrArg State.cooling (State.deliver_frame s b dest); exact h
@[simp] theorem State.deliver_safety (s : State) (b : NoticeBody) (dest : List Link) : (s.deliver b dest).safety = s.safety := by
  have h := congrArg State.safety (State.deliver_frame s b dest); exact h
@[simp] theorem State.deliver_claims (s : State) (b : NoticeBody) (dest : List Link) : (s.deliver b dest).claims = s.claims := by
  have h := congrArg State.claims (State.deliver_frame s b dest); exact h
@[simp] theorem State.deliver_supply (s : State) (b : NoticeBody) (dest : List Link) : (s.deliver b dest).supply = s.supply := by
  have h := congrArg State.supply (State.deliver_frame s b dest); exact h
@[simp] theorem State.deliver_holder (s : State) (b : NoticeBody) (dest : List Link) : (s.deliver b dest).holder = s.holder := by
  have h := congrArg State.holder (State.deliver_frame s b dest); exact h
@[simp] theorem State.deliver_doorOpen (s : State) (b : NoticeBody) (dest : List Link) : (s.deliver b dest).doorOpen = s.doorOpen := by
  have h := congrArg State.doorOpen (State.deliver_frame s b dest); exact h
@[simp] theorem State.deliver_lifetime (s : State) (b : NoticeBody) (dest : List Link) : (s.deliver b dest).lifetime = s.lifetime := by
  have h := congrArg State.lifetime (State.deliver_frame s b dest); exact h
@[simp] theorem State.deliver_interim (s : State) (b : NoticeBody) (dest : List Link) : (s.deliver b dest).interim = s.interim := by
  have h := congrArg State.interim (State.deliver_frame s b dest); exact h
@[simp] theorem State.deliver_out2 (s : State) (b : NoticeBody) (dest : List Link) : (s.deliver b dest).out2 = s.out2 := by
  have h := congrArg State.out2 (State.deliver_frame s b dest); exact h
@[simp] theorem State.deliver_out3 (s : State) (b : NoticeBody) (dest : List Link) : (s.deliver b dest).out3 = s.out3 := by
  have h := congrArg State.out3 (State.deliver_frame s b dest); exact h
@[simp] theorem State.deliver_free (s : State) (b : NoticeBody) (dest : List Link) : (s.deliver b dest).free = s.free := by
  have h := congrArg State.free (State.deliver_frame s b dest); exact h

@[simp] theorem State.broadcast_pending (s : State) (b : NoticeBody) : (s.broadcast b).pending = s.pending := by
  have h := congrArg State.pending (State.broadcast_frame s b); exact h
@[simp] theorem State.broadcast_now (s : State) (b : NoticeBody) : (s.broadcast b).now = s.now := by
  have h := congrArg State.now (State.broadcast_frame s b); exact h
@[simp] theorem State.broadcast_power (s : State) (b : NoticeBody) : (s.broadcast b).power = s.power := by
  have h := congrArg State.power (State.broadcast_frame s b); exact h
@[simp] theorem State.broadcast_resetAsserted (s : State) (b : NoticeBody) : (s.broadcast b).resetAsserted = s.resetAsserted := by
  have h := congrArg State.resetAsserted (State.broadcast_frame s b); exact h
@[simp] theorem State.broadcast_startAfter (s : State) (b : NoticeBody) : (s.broadcast b).startAfter = s.startAfter := by
  have h := congrArg State.startAfter (State.broadcast_frame s b); exact h
@[simp] theorem State.broadcast_settings (s : State) (b : NoticeBody) : (s.broadcast b).settings = s.settings := by
  have h := congrArg State.settings (State.broadcast_frame s b); exact h
@[simp] theorem State.broadcast_store (s : State) (b : NoticeBody) : (s.broadcast b).store = s.store := by
  have h := congrArg State.store (State.broadcast_frame s b); exact h
@[simp] theorem State.broadcast_credit (s : State) (b : NoticeBody) : (s.broadcast b).credit = s.credit := by
  have h := congrArg State.credit (State.broadcast_frame s b); exact h
@[simp] theorem State.broadcast_coin (s : State) (b : NoticeBody) : (s.broadcast b).coin = s.coin := by
  have h := congrArg State.coin (State.broadcast_frame s b); exact h
@[simp] theorem State.broadcast_tubes (s : State) (b : NoticeBody) : (s.broadcast b).tubes = s.tubes := by
  have h := congrArg State.tubes (State.broadcast_frame s b); exact h
@[simp] theorem State.broadcast_exactChange (s : State) (b : NoticeBody) : (s.broadcast b).exactChange = s.exactChange := by
  have h := congrArg State.exactChange (State.broadcast_frame s b); exact h
@[simp] theorem State.broadcast_payout (s : State) (b : NoticeBody) : (s.broadcast b).payout = s.payout := by
  have h := congrArg State.payout (State.broadcast_frame s b); exact h
@[simp] theorem State.broadcast_sels (s : State) (b : NoticeBody) : (s.broadcast b).sels = s.sels := by
  have h := congrArg State.sels (State.broadcast_frame s b); exact h
@[simp] theorem State.broadcast_queue (s : State) (b : NoticeBody) : (s.broadcast b).queue = s.queue := by
  have h := congrArg State.queue (State.broadcast_frame s b); exact h
@[simp] theorem State.broadcast_lastId (s : State) (b : NoticeBody) : (s.broadcast b).lastId = s.lastId := by
  have h := congrArg State.lastId (State.broadcast_frame s b); exact h
@[simp] theorem State.broadcast_drive (s : State) (b : NoticeBody) : (s.broadcast b).drive = s.drive := by
  have h := congrArg State.drive (State.broadcast_frame s b); exact h
@[simp] theorem State.broadcast_fitted (s : State) (b : NoticeBody) : (s.broadcast b).fitted = s.fitted := by
  have h := congrArg State.fitted (State.broadcast_frame s b); exact h
@[simp] theorem State.broadcast_blind (s : State) (b : NoticeBody) : (s.broadcast b).blind = s.blind := by
  have h := congrArg State.blind (State.broadcast_frame s b); exact h
@[simp] theorem State.broadcast_lateDrop (s : State) (b : NoticeBody) : (s.broadcast b).lateDrop = s.lateDrop := by
  have h := congrArg State.lateDrop (State.broadcast_frame s b); exact h
@[simp] theorem State.broadcast_cams (s : State) (b : NoticeBody) : (s.broadcast b).cams = s.cams := by
  have h := congrArg State.cams (State.broadcast_frame s b); exact h
@[simp] theorem State.broadcast_card (s : State) (b : NoticeBody) : (s.broadcast b).card = s.card := by
  have h := congrArg State.card (State.broadcast_frame s b); exact h
@[simp] theorem State.broadcast_lapsed (s : State) (b : NoticeBody) : (s.broadcast b).lapsed = s.lapsed := by
  have h := congrArg State.lapsed (State.broadcast_frame s b); exact h
@[simp] theorem State.broadcast_cooling (s : State) (b : NoticeBody) : (s.broadcast b).cooling = s.cooling := by
  have h := congrArg State.cooling (State.broadcast_frame s b); exact h
@[simp] theorem State.broadcast_safety (s : State) (b : NoticeBody) : (s.broadcast b).safety = s.safety := by
  have h := congrArg State.safety (State.broadcast_frame s b); exact h
@[simp] theorem State.broadcast_claims (s : State) (b : NoticeBody) : (s.broadcast b).claims = s.claims := by
  have h := congrArg State.claims (State.broadcast_frame s b); exact h
@[simp] theorem State.broadcast_supply (s : State) (b : NoticeBody) : (s.broadcast b).supply = s.supply := by
  have h := congrArg State.supply (State.broadcast_frame s b); exact h
@[simp] theorem State.broadcast_holder (s : State) (b : NoticeBody) : (s.broadcast b).holder = s.holder := by
  have h := congrArg State.holder (State.broadcast_frame s b); exact h
@[simp] theorem State.broadcast_doorOpen (s : State) (b : NoticeBody) : (s.broadcast b).doorOpen = s.doorOpen := by
  have h := congrArg State.doorOpen (State.broadcast_frame s b); exact h
@[simp] theorem State.broadcast_lifetime (s : State) (b : NoticeBody) : (s.broadcast b).lifetime = s.lifetime := by
  have h := congrArg State.lifetime (State.broadcast_frame s b); exact h
@[simp] theorem State.broadcast_interim (s : State) (b : NoticeBody) : (s.broadcast b).interim = s.interim := by
  have h := congrArg State.interim (State.broadcast_frame s b); exact h
@[simp] theorem State.broadcast_out2 (s : State) (b : NoticeBody) : (s.broadcast b).out2 = s.out2 := by
  have h := congrArg State.out2 (State.broadcast_frame s b); exact h
@[simp] theorem State.broadcast_out3 (s : State) (b : NoticeBody) : (s.broadcast b).out3 = s.out3 := by
  have h := congrArg State.out3 (State.broadcast_frame s b); exact h
@[simp] theorem State.broadcast_free (s : State) (b : NoticeBody) : (s.broadcast b).free = s.free := by
  have h := congrArg State.free (State.broadcast_frame s b); exact h

/-! ## The clock: the time and the accumulated run time -/

/-- An advance changes the clock and the cooling record's accumulated run time alone. -/
theorem State.advance_frame (s : State) (t : Nat) : { s.advance t with now := s.now, cooling := s.cooling } = s := by
  unfold State.advance; split <;> rfl

/-- After an advance the clock stands at the later of the two times. -/
@[simp] theorem State.advance_now (s : State) (t : Nat) : (s.advance t).now = max s.now t := by
  unfold State.advance; split
  · omega
  · show t = max s.now t
    omega

/-- The cooling record after an advance: its run time has grown by the time passed. -/
theorem State.advance_cooling (s : State) (t : Nat) :
    (s.advance t).cooling = if t ≤ s.now then s.cooling else s.cooling.elapse (t - s.now) := by
  unfold State.advance; split <;> rfl

/-- The accumulated run time after `d` ms: it grows while the relay is closed, up to its bound, and nothing else changes. -/
theorem Cooling.elapse_spec (c : Cooling) (d : Nat) :
    c.elapse d = { c with accumulated :=
      if c.runStart.isSome then min Config.maxRunTime (c.accumulated + d) else c.accumulated } := by
  unfold Cooling.elapse; split <;> rfl

@[simp] theorem State.advance_pending (s : State) (t : Nat) : (s.advance t).pending = s.pending := by
  have h := congrArg State.pending (State.advance_frame s t); exact h
@[simp] theorem State.advance_power (s : State) (t : Nat) : (s.advance t).power = s.power := by
  have h := congrArg State.power (State.advance_frame s t); exact h
@[simp] theorem State.advance_resetAsserted (s : State) (t : Nat) : (s.advance t).resetAsserted = s.resetAsserted := by
  have h := congrArg State.resetAsserted (State.advance_frame s t); exact h
@[simp] theorem State.advance_startAfter (s : State) (t : Nat) : (s.advance t).startAfter = s.startAfter := by
  have h := congrArg State.startAfter (State.advance_frame s t); exact h
@[simp] theorem State.advance_settings (s : State) (t : Nat) : (s.advance t).settings = s.settings := by
  have h := congrArg State.settings (State.advance_frame s t); exact h
@[simp] theorem State.advance_store (s : State) (t : Nat) : (s.advance t).store = s.store := by
  have h := congrArg State.store (State.advance_frame s t); exact h
@[simp] theorem State.advance_links (s : State) (t : Nat) : (s.advance t).links = s.links := by
  have h := congrArg State.links (State.advance_frame s t); exact h
@[simp] theorem State.advance_credit (s : State) (t : Nat) : (s.advance t).credit = s.credit := by
  have h := congrArg State.credit (State.advance_frame s t); exact h
@[simp] theorem State.advance_coin (s : State) (t : Nat) : (s.advance t).coin = s.coin := by
  have h := congrArg State.coin (State.advance_frame s t); exact h
@[simp] theorem State.advance_tubes (s : State) (t : Nat) : (s.advance t).tubes = s.tubes := by
  have h := congrArg State.tubes (State.advance_frame s t); exact h
@[simp] theorem State.advance_exactChange (s : State) (t : Nat) : (s.advance t).exactChange = s.exactChange := by
  have h := congrArg State.exactChange (State.advance_frame s t); exact h
@[simp] theorem State.advance_payout (s : State) (t : Nat) : (s.advance t).payout = s.payout := by
  have h := congrArg State.payout (State.advance_frame s t); exact h
@[simp] theorem State.advance_sels (s : State) (t : Nat) : (s.advance t).sels = s.sels := by
  have h := congrArg State.sels (State.advance_frame s t); exact h
@[simp] theorem State.advance_queue (s : State) (t : Nat) : (s.advance t).queue = s.queue := by
  have h := congrArg State.queue (State.advance_frame s t); exact h
@[simp] theorem State.advance_lastId (s : State) (t : Nat) : (s.advance t).lastId = s.lastId := by
  have h := congrArg State.lastId (State.advance_frame s t); exact h
@[simp] theorem State.advance_drive (s : State) (t : Nat) : (s.advance t).drive = s.drive := by
  have h := congrArg State.drive (State.advance_frame s t); exact h
@[simp] theorem State.advance_fitted (s : State) (t : Nat) : (s.advance t).fitted = s.fitted := by
  have h := congrArg State.fitted (State.advance_frame s t); exact h
@[simp] theorem State.advance_blind (s : State) (t : Nat) : (s.advance t).blind = s.blind := by
  have h := congrArg State.blind (State.advance_frame s t); exact h
@[simp] theorem State.advance_lateDrop (s : State) (t : Nat) : (s.advance t).lateDrop = s.lateDrop := by
  have h := congrArg State.lateDrop (State.advance_frame s t); exact h
@[simp] theorem State.advance_cams (s : State) (t : Nat) : (s.advance t).cams = s.cams := by
  have h := congrArg State.cams (State.advance_frame s t); exact h
@[simp] theorem State.advance_card (s : State) (t : Nat) : (s.advance t).card = s.card := by
  have h := congrArg State.card (State.advance_frame s t); exact h
@[simp] theorem State.advance_lapsed (s : State) (t : Nat) : (s.advance t).lapsed = s.lapsed := by
  have h := congrArg State.lapsed (State.advance_frame s t); exact h
@[simp] theorem State.advance_safety (s : State) (t : Nat) : (s.advance t).safety = s.safety := by
  have h := congrArg State.safety (State.advance_frame s t); exact h
@[simp] theorem State.advance_claims (s : State) (t : Nat) : (s.advance t).claims = s.claims := by
  have h := congrArg State.claims (State.advance_frame s t); exact h
@[simp] theorem State.advance_supply (s : State) (t : Nat) : (s.advance t).supply = s.supply := by
  have h := congrArg State.supply (State.advance_frame s t); exact h
@[simp] theorem State.advance_holder (s : State) (t : Nat) : (s.advance t).holder = s.holder := by
  have h := congrArg State.holder (State.advance_frame s t); exact h
@[simp] theorem State.advance_doorOpen (s : State) (t : Nat) : (s.advance t).doorOpen = s.doorOpen := by
  have h := congrArg State.doorOpen (State.advance_frame s t); exact h
@[simp] theorem State.advance_lifetime (s : State) (t : Nat) : (s.advance t).lifetime = s.lifetime := by
  have h := congrArg State.lifetime (State.advance_frame s t); exact h
@[simp] theorem State.advance_interim (s : State) (t : Nat) : (s.advance t).interim = s.interim := by
  have h := congrArg State.interim (State.advance_frame s t); exact h
@[simp] theorem State.advance_out2 (s : State) (t : Nat) : (s.advance t).out2 = s.out2 := by
  have h := congrArg State.out2 (State.advance_frame s t); exact h
@[simp] theorem State.advance_out3 (s : State) (t : Nat) : (s.advance t).out3 = s.out3 := by
  have h := congrArg State.out3 (State.advance_frame s t); exact h
@[simp] theorem State.advance_free (s : State) (t : Nat) : (s.advance t).free = s.free := by
  have h := congrArg State.free (State.advance_frame s t); exact h

/-! ## Holds: one selection's hold set, and the notice -/

/-- An added hold changes the selections' running entries and the link records alone. -/
theorem State.addHold_frame (s : State) (i : Sel) (k : HoldKind) :
    { s.addHold i k with sels := s.sels, links := s.links } = s := by
  unfold State.addHold; split
  · rfl
  · exact congrArg (fun t : State => { t with sels := s.sels }) (State.broadcast_frame _ _)

/-- A removed hold changes the selections' running entries and the link records alone. -/
theorem State.removeHold_frame (s : State) (i : Sel) (k : HoldKind) :
    { s.removeHold i k with sels := s.sels, links := s.links } = s := by
  unfold State.removeHold; split
  · exact congrArg (fun t : State => { t with sels := s.sels }) (State.broadcast_frame _ _)
  · rfl

@[simp] theorem State.addHold_pending (s : State) (i : Sel) (k : HoldKind) : (s.addHold i k).pending = s.pending := by
  have h := congrArg State.pending (State.addHold_frame s i k); exact h
@[simp] theorem State.addHold_now (s : State) (i : Sel) (k : HoldKind) : (s.addHold i k).now = s.now := by
  have h := congrArg State.now (State.addHold_frame s i k); exact h
@[simp] theorem State.addHold_power (s : State) (i : Sel) (k : HoldKind) : (s.addHold i k).power = s.power := by
  have h := congrArg State.power (State.addHold_frame s i k); exact h
@[simp] theorem State.addHold_resetAsserted (s : State) (i : Sel) (k : HoldKind) : (s.addHold i k).resetAsserted = s.resetAsserted := by
  have h := congrArg State.resetAsserted (State.addHold_frame s i k); exact h
@[simp] theorem State.addHold_startAfter (s : State) (i : Sel) (k : HoldKind) : (s.addHold i k).startAfter = s.startAfter := by
  have h := congrArg State.startAfter (State.addHold_frame s i k); exact h
@[simp] theorem State.addHold_settings (s : State) (i : Sel) (k : HoldKind) : (s.addHold i k).settings = s.settings := by
  have h := congrArg State.settings (State.addHold_frame s i k); exact h
@[simp] theorem State.addHold_store (s : State) (i : Sel) (k : HoldKind) : (s.addHold i k).store = s.store := by
  have h := congrArg State.store (State.addHold_frame s i k); exact h
@[simp] theorem State.addHold_credit (s : State) (i : Sel) (k : HoldKind) : (s.addHold i k).credit = s.credit := by
  have h := congrArg State.credit (State.addHold_frame s i k); exact h
@[simp] theorem State.addHold_coin (s : State) (i : Sel) (k : HoldKind) : (s.addHold i k).coin = s.coin := by
  have h := congrArg State.coin (State.addHold_frame s i k); exact h
@[simp] theorem State.addHold_tubes (s : State) (i : Sel) (k : HoldKind) : (s.addHold i k).tubes = s.tubes := by
  have h := congrArg State.tubes (State.addHold_frame s i k); exact h
@[simp] theorem State.addHold_exactChange (s : State) (i : Sel) (k : HoldKind) : (s.addHold i k).exactChange = s.exactChange := by
  have h := congrArg State.exactChange (State.addHold_frame s i k); exact h
@[simp] theorem State.addHold_payout (s : State) (i : Sel) (k : HoldKind) : (s.addHold i k).payout = s.payout := by
  have h := congrArg State.payout (State.addHold_frame s i k); exact h
@[simp] theorem State.addHold_queue (s : State) (i : Sel) (k : HoldKind) : (s.addHold i k).queue = s.queue := by
  have h := congrArg State.queue (State.addHold_frame s i k); exact h
@[simp] theorem State.addHold_lastId (s : State) (i : Sel) (k : HoldKind) : (s.addHold i k).lastId = s.lastId := by
  have h := congrArg State.lastId (State.addHold_frame s i k); exact h
@[simp] theorem State.addHold_drive (s : State) (i : Sel) (k : HoldKind) : (s.addHold i k).drive = s.drive := by
  have h := congrArg State.drive (State.addHold_frame s i k); exact h
@[simp] theorem State.addHold_fitted (s : State) (i : Sel) (k : HoldKind) : (s.addHold i k).fitted = s.fitted := by
  have h := congrArg State.fitted (State.addHold_frame s i k); exact h
@[simp] theorem State.addHold_blind (s : State) (i : Sel) (k : HoldKind) : (s.addHold i k).blind = s.blind := by
  have h := congrArg State.blind (State.addHold_frame s i k); exact h
@[simp] theorem State.addHold_lateDrop (s : State) (i : Sel) (k : HoldKind) : (s.addHold i k).lateDrop = s.lateDrop := by
  have h := congrArg State.lateDrop (State.addHold_frame s i k); exact h
@[simp] theorem State.addHold_cams (s : State) (i : Sel) (k : HoldKind) : (s.addHold i k).cams = s.cams := by
  have h := congrArg State.cams (State.addHold_frame s i k); exact h
@[simp] theorem State.addHold_card (s : State) (i : Sel) (k : HoldKind) : (s.addHold i k).card = s.card := by
  have h := congrArg State.card (State.addHold_frame s i k); exact h
@[simp] theorem State.addHold_lapsed (s : State) (i : Sel) (k : HoldKind) : (s.addHold i k).lapsed = s.lapsed := by
  have h := congrArg State.lapsed (State.addHold_frame s i k); exact h
@[simp] theorem State.addHold_cooling (s : State) (i : Sel) (k : HoldKind) : (s.addHold i k).cooling = s.cooling := by
  have h := congrArg State.cooling (State.addHold_frame s i k); exact h
@[simp] theorem State.addHold_safety (s : State) (i : Sel) (k : HoldKind) : (s.addHold i k).safety = s.safety := by
  have h := congrArg State.safety (State.addHold_frame s i k); exact h
@[simp] theorem State.addHold_claims (s : State) (i : Sel) (k : HoldKind) : (s.addHold i k).claims = s.claims := by
  have h := congrArg State.claims (State.addHold_frame s i k); exact h
@[simp] theorem State.addHold_supply (s : State) (i : Sel) (k : HoldKind) : (s.addHold i k).supply = s.supply := by
  have h := congrArg State.supply (State.addHold_frame s i k); exact h
@[simp] theorem State.addHold_holder (s : State) (i : Sel) (k : HoldKind) : (s.addHold i k).holder = s.holder := by
  have h := congrArg State.holder (State.addHold_frame s i k); exact h
@[simp] theorem State.addHold_doorOpen (s : State) (i : Sel) (k : HoldKind) : (s.addHold i k).doorOpen = s.doorOpen := by
  have h := congrArg State.doorOpen (State.addHold_frame s i k); exact h
@[simp] theorem State.addHold_lifetime (s : State) (i : Sel) (k : HoldKind) : (s.addHold i k).lifetime = s.lifetime := by
  have h := congrArg State.lifetime (State.addHold_frame s i k); exact h
@[simp] theorem State.addHold_interim (s : State) (i : Sel) (k : HoldKind) : (s.addHold i k).interim = s.interim := by
  have h := congrArg State.interim (State.addHold_frame s i k); exact h
@[simp] theorem State.addHold_out2 (s : State) (i : Sel) (k : HoldKind) : (s.addHold i k).out2 = s.out2 := by
  have h := congrArg State.out2 (State.addHold_frame s i k); exact h
@[simp] theorem State.addHold_out3 (s : State) (i : Sel) (k : HoldKind) : (s.addHold i k).out3 = s.out3 := by
  have h := congrArg State.out3 (State.addHold_frame s i k); exact h
@[simp] theorem State.addHold_free (s : State) (i : Sel) (k : HoldKind) : (s.addHold i k).free = s.free := by
  have h := congrArg State.free (State.addHold_frame s i k); exact h

@[simp] theorem State.removeHold_pending (s : State) (i : Sel) (k : HoldKind) : (s.removeHold i k).pending = s.pending := by
  have h := congrArg State.pending (State.removeHold_frame s i k); exact h
@[simp] theorem State.removeHold_now (s : State) (i : Sel) (k : HoldKind) : (s.removeHold i k).now = s.now := by
  have h := congrArg State.now (State.removeHold_frame s i k); exact h
@[simp] theorem State.removeHold_power (s : State) (i : Sel) (k : HoldKind) : (s.removeHold i k).power = s.power := by
  have h := congrArg State.power (State.removeHold_frame s i k); exact h
@[simp] theorem State.removeHold_resetAsserted (s : State) (i : Sel) (k : HoldKind) : (s.removeHold i k).resetAsserted = s.resetAsserted := by
  have h := congrArg State.resetAsserted (State.removeHold_frame s i k); exact h
@[simp] theorem State.removeHold_startAfter (s : State) (i : Sel) (k : HoldKind) : (s.removeHold i k).startAfter = s.startAfter := by
  have h := congrArg State.startAfter (State.removeHold_frame s i k); exact h
@[simp] theorem State.removeHold_settings (s : State) (i : Sel) (k : HoldKind) : (s.removeHold i k).settings = s.settings := by
  have h := congrArg State.settings (State.removeHold_frame s i k); exact h
@[simp] theorem State.removeHold_store (s : State) (i : Sel) (k : HoldKind) : (s.removeHold i k).store = s.store := by
  have h := congrArg State.store (State.removeHold_frame s i k); exact h
@[simp] theorem State.removeHold_credit (s : State) (i : Sel) (k : HoldKind) : (s.removeHold i k).credit = s.credit := by
  have h := congrArg State.credit (State.removeHold_frame s i k); exact h
@[simp] theorem State.removeHold_coin (s : State) (i : Sel) (k : HoldKind) : (s.removeHold i k).coin = s.coin := by
  have h := congrArg State.coin (State.removeHold_frame s i k); exact h
@[simp] theorem State.removeHold_tubes (s : State) (i : Sel) (k : HoldKind) : (s.removeHold i k).tubes = s.tubes := by
  have h := congrArg State.tubes (State.removeHold_frame s i k); exact h
@[simp] theorem State.removeHold_exactChange (s : State) (i : Sel) (k : HoldKind) : (s.removeHold i k).exactChange = s.exactChange := by
  have h := congrArg State.exactChange (State.removeHold_frame s i k); exact h
@[simp] theorem State.removeHold_payout (s : State) (i : Sel) (k : HoldKind) : (s.removeHold i k).payout = s.payout := by
  have h := congrArg State.payout (State.removeHold_frame s i k); exact h
@[simp] theorem State.removeHold_queue (s : State) (i : Sel) (k : HoldKind) : (s.removeHold i k).queue = s.queue := by
  have h := congrArg State.queue (State.removeHold_frame s i k); exact h
@[simp] theorem State.removeHold_lastId (s : State) (i : Sel) (k : HoldKind) : (s.removeHold i k).lastId = s.lastId := by
  have h := congrArg State.lastId (State.removeHold_frame s i k); exact h
@[simp] theorem State.removeHold_drive (s : State) (i : Sel) (k : HoldKind) : (s.removeHold i k).drive = s.drive := by
  have h := congrArg State.drive (State.removeHold_frame s i k); exact h
@[simp] theorem State.removeHold_fitted (s : State) (i : Sel) (k : HoldKind) : (s.removeHold i k).fitted = s.fitted := by
  have h := congrArg State.fitted (State.removeHold_frame s i k); exact h
@[simp] theorem State.removeHold_blind (s : State) (i : Sel) (k : HoldKind) : (s.removeHold i k).blind = s.blind := by
  have h := congrArg State.blind (State.removeHold_frame s i k); exact h
@[simp] theorem State.removeHold_lateDrop (s : State) (i : Sel) (k : HoldKind) : (s.removeHold i k).lateDrop = s.lateDrop := by
  have h := congrArg State.lateDrop (State.removeHold_frame s i k); exact h
@[simp] theorem State.removeHold_cams (s : State) (i : Sel) (k : HoldKind) : (s.removeHold i k).cams = s.cams := by
  have h := congrArg State.cams (State.removeHold_frame s i k); exact h
@[simp] theorem State.removeHold_card (s : State) (i : Sel) (k : HoldKind) : (s.removeHold i k).card = s.card := by
  have h := congrArg State.card (State.removeHold_frame s i k); exact h
@[simp] theorem State.removeHold_lapsed (s : State) (i : Sel) (k : HoldKind) : (s.removeHold i k).lapsed = s.lapsed := by
  have h := congrArg State.lapsed (State.removeHold_frame s i k); exact h
@[simp] theorem State.removeHold_cooling (s : State) (i : Sel) (k : HoldKind) : (s.removeHold i k).cooling = s.cooling := by
  have h := congrArg State.cooling (State.removeHold_frame s i k); exact h
@[simp] theorem State.removeHold_safety (s : State) (i : Sel) (k : HoldKind) : (s.removeHold i k).safety = s.safety := by
  have h := congrArg State.safety (State.removeHold_frame s i k); exact h
@[simp] theorem State.removeHold_claims (s : State) (i : Sel) (k : HoldKind) : (s.removeHold i k).claims = s.claims := by
  have h := congrArg State.claims (State.removeHold_frame s i k); exact h
@[simp] theorem State.removeHold_supply (s : State) (i : Sel) (k : HoldKind) : (s.removeHold i k).supply = s.supply := by
  have h := congrArg State.supply (State.removeHold_frame s i k); exact h
@[simp] theorem State.removeHold_holder (s : State) (i : Sel) (k : HoldKind) : (s.removeHold i k).holder = s.holder := by
  have h := congrArg State.holder (State.removeHold_frame s i k); exact h
@[simp] theorem State.removeHold_doorOpen (s : State) (i : Sel) (k : HoldKind) : (s.removeHold i k).doorOpen = s.doorOpen := by
  have h := congrArg State.doorOpen (State.removeHold_frame s i k); exact h
@[simp] theorem State.removeHold_lifetime (s : State) (i : Sel) (k : HoldKind) : (s.removeHold i k).lifetime = s.lifetime := by
  have h := congrArg State.lifetime (State.removeHold_frame s i k); exact h
@[simp] theorem State.removeHold_interim (s : State) (i : Sel) (k : HoldKind) : (s.removeHold i k).interim = s.interim := by
  have h := congrArg State.interim (State.removeHold_frame s i k); exact h
@[simp] theorem State.removeHold_out2 (s : State) (i : Sel) (k : HoldKind) : (s.removeHold i k).out2 = s.out2 := by
  have h := congrArg State.out2 (State.removeHold_frame s i k); exact h
@[simp] theorem State.removeHold_out3 (s : State) (i : Sel) (k : HoldKind) : (s.removeHold i k).out3 = s.out3 := by
  have h := congrArg State.out3 (State.removeHold_frame s i k); exact h
@[simp] theorem State.removeHold_free (s : State) (i : Sel) (k : HoldKind) : (s.removeHold i k).free = s.free := by
  have h := congrArg State.free (State.removeHold_frame s i k); exact h

/-! ## Grants: the owners' records, and the pass -/

/-- A coin attempt changes the payout record alone. -/
theorem State.beginCoin_frame (s : State) : { s.beginCoin with payout := s.payout } = s := by
  unfold State.beginCoin
  repeat' split
  all_goals rfl

/-- The drive taking an order changes its own record and the order's turns alone. -/
theorem State.takeOrder_frame (s : State) (o : Order) : { s.takeOrder o with queue := s.queue, drive := s.drive } = s := by
  unfold State.takeOrder; split <;> rfl

/-- A granted VEND claim changes the queue, the drive record and the link records alone. -/
theorem State.vendGranted_frame (s : State) :
    { s.vendGranted with queue := s.queue, drive := s.drive, links := s.links } = s := by
  unfold State.vendGranted
  split
  · split
    · next o _ _ _ =>
      have h1 := State.takeOrder_frame (State.stateNotice o .turning (s.modOrder o.id fun o => { o with state := .turning })) o
      have h2 := State.deliver_frame (s.modOrder o.id fun o => { o with state := .turning })
        (.orderState o.id o.sel .turning) (addressees o.origin o.cardLink)
      have h3 := congrArg (fun t : State => { t with queue := s.queue, drive := s.drive, links := s.links }) h1
      exact h3.trans (congrArg (fun t : State => { t with queue := s.queue, drive := s.drive, links := s.links }) h2)
    · rfl
  · rfl

/-- An owner told of its grant changes the queue, the drive, payout and cooling records and the link records alone. -/
theorem State.tell_frame (s : State) (o : Owner) :
    { s.tell o with queue := s.queue, drive := s.drive, payout := s.payout, cooling := s.cooling, links := s.links } = s := by
  cases o
  · exact congrArg (fun t : State => { t with payout := s.payout, cooling := s.cooling }) (State.vendGranted_frame s)
  · show { s.payoutGranted with queue := s.queue, drive := s.drive, payout := s.payout, cooling := s.cooling, links := s.links } = s
    unfold State.payoutGranted; split
    · exact congrArg (fun t : State => { t with
        queue := s.queue, drive := s.drive, payout := s.payout, cooling := s.cooling, links := s.links })
        (State.beginCoin_frame (s.modPayout fun p => { p with state := .ejecting }))
    · rfl
  · rfl
  · rfl
  · rfl
  · show { s.probeGranted with queue := s.queue, drive := s.drive, payout := s.payout, cooling := s.cooling, links := s.links } = s
    unfold State.probeGranted; split <;> rfl

/-- Owners told one after another change the same fields alone. -/
theorem State.tellAll_frame (os : List Owner) : ∀ s : State,
    { os.foldl (fun s o => s.tell o) s with
      queue := s.queue, drive := s.drive, payout := s.payout, cooling := s.cooling, links := s.links } = s := by
  induction os with
  | nil => intro s; rfl
  | cons o os ih =>
    intro s
    have h1 := congrArg (fun t : State => { t with
      queue := s.queue, drive := s.drive, payout := s.payout, cooling := s.cooling, links := s.links }) (ih (s.tell o))
    exact h1.trans (State.tell_frame s o)

/-- A grant pass changes the claims, and the records of the owners it tells, alone. -/
theorem State.grantPass_frame (s : State) :
    { s.grantPass with claims := s.claims, queue := s.queue, drive := s.drive, payout := s.payout, cooling := s.cooling,
                       links := s.links } = s :=
  congrArg (fun t : State => { t with claims := s.claims }) (State.tellAll_frame _ (s.setClaims _))

@[simp] theorem State.beginCoin_pending (s : State) : (s.beginCoin).pending = s.pending := by
  have h := congrArg State.pending (State.beginCoin_frame s); exact h
@[simp] theorem State.beginCoin_now (s : State) : (s.beginCoin).now = s.now := by
  have h := congrArg State.now (State.beginCoin_frame s); exact h
@[simp] theorem State.beginCoin_power (s : State) : (s.beginCoin).power = s.power := by
  have h := congrArg State.power (State.beginCoin_frame s); exact h
@[simp] theorem State.beginCoin_resetAsserted (s : State) : (s.beginCoin).resetAsserted = s.resetAsserted := by
  have h := congrArg State.resetAsserted (State.beginCoin_frame s); exact h
@[simp] theorem State.beginCoin_startAfter (s : State) : (s.beginCoin).startAfter = s.startAfter := by
  have h := congrArg State.startAfter (State.beginCoin_frame s); exact h
@[simp] theorem State.beginCoin_settings (s : State) : (s.beginCoin).settings = s.settings := by
  have h := congrArg State.settings (State.beginCoin_frame s); exact h
@[simp] theorem State.beginCoin_store (s : State) : (s.beginCoin).store = s.store := by
  have h := congrArg State.store (State.beginCoin_frame s); exact h
@[simp] theorem State.beginCoin_links (s : State) : (s.beginCoin).links = s.links := by
  have h := congrArg State.links (State.beginCoin_frame s); exact h
@[simp] theorem State.beginCoin_credit (s : State) : (s.beginCoin).credit = s.credit := by
  have h := congrArg State.credit (State.beginCoin_frame s); exact h
@[simp] theorem State.beginCoin_coin (s : State) : (s.beginCoin).coin = s.coin := by
  have h := congrArg State.coin (State.beginCoin_frame s); exact h
@[simp] theorem State.beginCoin_tubes (s : State) : (s.beginCoin).tubes = s.tubes := by
  have h := congrArg State.tubes (State.beginCoin_frame s); exact h
@[simp] theorem State.beginCoin_exactChange (s : State) : (s.beginCoin).exactChange = s.exactChange := by
  have h := congrArg State.exactChange (State.beginCoin_frame s); exact h
@[simp] theorem State.beginCoin_sels (s : State) : (s.beginCoin).sels = s.sels := by
  have h := congrArg State.sels (State.beginCoin_frame s); exact h
@[simp] theorem State.beginCoin_queue (s : State) : (s.beginCoin).queue = s.queue := by
  have h := congrArg State.queue (State.beginCoin_frame s); exact h
@[simp] theorem State.beginCoin_lastId (s : State) : (s.beginCoin).lastId = s.lastId := by
  have h := congrArg State.lastId (State.beginCoin_frame s); exact h
@[simp] theorem State.beginCoin_drive (s : State) : (s.beginCoin).drive = s.drive := by
  have h := congrArg State.drive (State.beginCoin_frame s); exact h
@[simp] theorem State.beginCoin_fitted (s : State) : (s.beginCoin).fitted = s.fitted := by
  have h := congrArg State.fitted (State.beginCoin_frame s); exact h
@[simp] theorem State.beginCoin_blind (s : State) : (s.beginCoin).blind = s.blind := by
  have h := congrArg State.blind (State.beginCoin_frame s); exact h
@[simp] theorem State.beginCoin_lateDrop (s : State) : (s.beginCoin).lateDrop = s.lateDrop := by
  have h := congrArg State.lateDrop (State.beginCoin_frame s); exact h
@[simp] theorem State.beginCoin_cams (s : State) : (s.beginCoin).cams = s.cams := by
  have h := congrArg State.cams (State.beginCoin_frame s); exact h
@[simp] theorem State.beginCoin_card (s : State) : (s.beginCoin).card = s.card := by
  have h := congrArg State.card (State.beginCoin_frame s); exact h
@[simp] theorem State.beginCoin_lapsed (s : State) : (s.beginCoin).lapsed = s.lapsed := by
  have h := congrArg State.lapsed (State.beginCoin_frame s); exact h
@[simp] theorem State.beginCoin_cooling (s : State) : (s.beginCoin).cooling = s.cooling := by
  have h := congrArg State.cooling (State.beginCoin_frame s); exact h
@[simp] theorem State.beginCoin_safety (s : State) : (s.beginCoin).safety = s.safety := by
  have h := congrArg State.safety (State.beginCoin_frame s); exact h
@[simp] theorem State.beginCoin_claims (s : State) : (s.beginCoin).claims = s.claims := by
  have h := congrArg State.claims (State.beginCoin_frame s); exact h
@[simp] theorem State.beginCoin_supply (s : State) : (s.beginCoin).supply = s.supply := by
  have h := congrArg State.supply (State.beginCoin_frame s); exact h
@[simp] theorem State.beginCoin_holder (s : State) : (s.beginCoin).holder = s.holder := by
  have h := congrArg State.holder (State.beginCoin_frame s); exact h
@[simp] theorem State.beginCoin_doorOpen (s : State) : (s.beginCoin).doorOpen = s.doorOpen := by
  have h := congrArg State.doorOpen (State.beginCoin_frame s); exact h
@[simp] theorem State.beginCoin_lifetime (s : State) : (s.beginCoin).lifetime = s.lifetime := by
  have h := congrArg State.lifetime (State.beginCoin_frame s); exact h
@[simp] theorem State.beginCoin_interim (s : State) : (s.beginCoin).interim = s.interim := by
  have h := congrArg State.interim (State.beginCoin_frame s); exact h
@[simp] theorem State.beginCoin_out2 (s : State) : (s.beginCoin).out2 = s.out2 := by
  have h := congrArg State.out2 (State.beginCoin_frame s); exact h
@[simp] theorem State.beginCoin_out3 (s : State) : (s.beginCoin).out3 = s.out3 := by
  have h := congrArg State.out3 (State.beginCoin_frame s); exact h
@[simp] theorem State.beginCoin_free (s : State) : (s.beginCoin).free = s.free := by
  have h := congrArg State.free (State.beginCoin_frame s); exact h

@[simp] theorem State.tell_pending (s : State) (o : Owner) : (s.tell o).pending = s.pending := by
  have h := congrArg State.pending (State.tell_frame s o); exact h
@[simp] theorem State.tell_now (s : State) (o : Owner) : (s.tell o).now = s.now := by
  have h := congrArg State.now (State.tell_frame s o); exact h
@[simp] theorem State.tell_power (s : State) (o : Owner) : (s.tell o).power = s.power := by
  have h := congrArg State.power (State.tell_frame s o); exact h
@[simp] theorem State.tell_resetAsserted (s : State) (o : Owner) : (s.tell o).resetAsserted = s.resetAsserted := by
  have h := congrArg State.resetAsserted (State.tell_frame s o); exact h
@[simp] theorem State.tell_startAfter (s : State) (o : Owner) : (s.tell o).startAfter = s.startAfter := by
  have h := congrArg State.startAfter (State.tell_frame s o); exact h
@[simp] theorem State.tell_settings (s : State) (o : Owner) : (s.tell o).settings = s.settings := by
  have h := congrArg State.settings (State.tell_frame s o); exact h
@[simp] theorem State.tell_store (s : State) (o : Owner) : (s.tell o).store = s.store := by
  have h := congrArg State.store (State.tell_frame s o); exact h
@[simp] theorem State.tell_credit (s : State) (o : Owner) : (s.tell o).credit = s.credit := by
  have h := congrArg State.credit (State.tell_frame s o); exact h
@[simp] theorem State.tell_coin (s : State) (o : Owner) : (s.tell o).coin = s.coin := by
  have h := congrArg State.coin (State.tell_frame s o); exact h
@[simp] theorem State.tell_tubes (s : State) (o : Owner) : (s.tell o).tubes = s.tubes := by
  have h := congrArg State.tubes (State.tell_frame s o); exact h
@[simp] theorem State.tell_exactChange (s : State) (o : Owner) : (s.tell o).exactChange = s.exactChange := by
  have h := congrArg State.exactChange (State.tell_frame s o); exact h
@[simp] theorem State.tell_sels (s : State) (o : Owner) : (s.tell o).sels = s.sels := by
  have h := congrArg State.sels (State.tell_frame s o); exact h
@[simp] theorem State.tell_lastId (s : State) (o : Owner) : (s.tell o).lastId = s.lastId := by
  have h := congrArg State.lastId (State.tell_frame s o); exact h
@[simp] theorem State.tell_fitted (s : State) (o : Owner) : (s.tell o).fitted = s.fitted := by
  have h := congrArg State.fitted (State.tell_frame s o); exact h
@[simp] theorem State.tell_blind (s : State) (o : Owner) : (s.tell o).blind = s.blind := by
  have h := congrArg State.blind (State.tell_frame s o); exact h
@[simp] theorem State.tell_lateDrop (s : State) (o : Owner) : (s.tell o).lateDrop = s.lateDrop := by
  have h := congrArg State.lateDrop (State.tell_frame s o); exact h
@[simp] theorem State.tell_cams (s : State) (o : Owner) : (s.tell o).cams = s.cams := by
  have h := congrArg State.cams (State.tell_frame s o); exact h
@[simp] theorem State.tell_card (s : State) (o : Owner) : (s.tell o).card = s.card := by
  have h := congrArg State.card (State.tell_frame s o); exact h
@[simp] theorem State.tell_lapsed (s : State) (o : Owner) : (s.tell o).lapsed = s.lapsed := by
  have h := congrArg State.lapsed (State.tell_frame s o); exact h
@[simp] theorem State.tell_safety (s : State) (o : Owner) : (s.tell o).safety = s.safety := by
  have h := congrArg State.safety (State.tell_frame s o); exact h
@[simp] theorem State.tell_claims (s : State) (o : Owner) : (s.tell o).claims = s.claims := by
  have h := congrArg State.claims (State.tell_frame s o); exact h
@[simp] theorem State.tell_supply (s : State) (o : Owner) : (s.tell o).supply = s.supply := by
  have h := congrArg State.supply (State.tell_frame s o); exact h
@[simp] theorem State.tell_holder (s : State) (o : Owner) : (s.tell o).holder = s.holder := by
  have h := congrArg State.holder (State.tell_frame s o); exact h
@[simp] theorem State.tell_doorOpen (s : State) (o : Owner) : (s.tell o).doorOpen = s.doorOpen := by
  have h := congrArg State.doorOpen (State.tell_frame s o); exact h
@[simp] theorem State.tell_lifetime (s : State) (o : Owner) : (s.tell o).lifetime = s.lifetime := by
  have h := congrArg State.lifetime (State.tell_frame s o); exact h
@[simp] theorem State.tell_interim (s : State) (o : Owner) : (s.tell o).interim = s.interim := by
  have h := congrArg State.interim (State.tell_frame s o); exact h
@[simp] theorem State.tell_out2 (s : State) (o : Owner) : (s.tell o).out2 = s.out2 := by
  have h := congrArg State.out2 (State.tell_frame s o); exact h
@[simp] theorem State.tell_out3 (s : State) (o : Owner) : (s.tell o).out3 = s.out3 := by
  have h := congrArg State.out3 (State.tell_frame s o); exact h
@[simp] theorem State.tell_free (s : State) (o : Owner) : (s.tell o).free = s.free := by
  have h := congrArg State.free (State.tell_frame s o); exact h

@[simp] theorem State.grantPass_pending (s : State) : (s.grantPass).pending = s.pending := by
  have h := congrArg State.pending (State.grantPass_frame s); exact h
@[simp] theorem State.grantPass_now (s : State) : (s.grantPass).now = s.now := by
  have h := congrArg State.now (State.grantPass_frame s); exact h
@[simp] theorem State.grantPass_power (s : State) : (s.grantPass).power = s.power := by
  have h := congrArg State.power (State.grantPass_frame s); exact h
@[simp] theorem State.grantPass_resetAsserted (s : State) : (s.grantPass).resetAsserted = s.resetAsserted := by
  have h := congrArg State.resetAsserted (State.grantPass_frame s); exact h
@[simp] theorem State.grantPass_startAfter (s : State) : (s.grantPass).startAfter = s.startAfter := by
  have h := congrArg State.startAfter (State.grantPass_frame s); exact h
@[simp] theorem State.grantPass_settings (s : State) : (s.grantPass).settings = s.settings := by
  have h := congrArg State.settings (State.grantPass_frame s); exact h
@[simp] theorem State.grantPass_store (s : State) : (s.grantPass).store = s.store := by
  have h := congrArg State.store (State.grantPass_frame s); exact h
@[simp] theorem State.grantPass_credit (s : State) : (s.grantPass).credit = s.credit := by
  have h := congrArg State.credit (State.grantPass_frame s); exact h
@[simp] theorem State.grantPass_coin (s : State) : (s.grantPass).coin = s.coin := by
  have h := congrArg State.coin (State.grantPass_frame s); exact h
@[simp] theorem State.grantPass_tubes (s : State) : (s.grantPass).tubes = s.tubes := by
  have h := congrArg State.tubes (State.grantPass_frame s); exact h
@[simp] theorem State.grantPass_exactChange (s : State) : (s.grantPass).exactChange = s.exactChange := by
  have h := congrArg State.exactChange (State.grantPass_frame s); exact h
@[simp] theorem State.grantPass_sels (s : State) : (s.grantPass).sels = s.sels := by
  have h := congrArg State.sels (State.grantPass_frame s); exact h
@[simp] theorem State.grantPass_lastId (s : State) : (s.grantPass).lastId = s.lastId := by
  have h := congrArg State.lastId (State.grantPass_frame s); exact h
@[simp] theorem State.grantPass_fitted (s : State) : (s.grantPass).fitted = s.fitted := by
  have h := congrArg State.fitted (State.grantPass_frame s); exact h
@[simp] theorem State.grantPass_blind (s : State) : (s.grantPass).blind = s.blind := by
  have h := congrArg State.blind (State.grantPass_frame s); exact h
@[simp] theorem State.grantPass_lateDrop (s : State) : (s.grantPass).lateDrop = s.lateDrop := by
  have h := congrArg State.lateDrop (State.grantPass_frame s); exact h
@[simp] theorem State.grantPass_cams (s : State) : (s.grantPass).cams = s.cams := by
  have h := congrArg State.cams (State.grantPass_frame s); exact h
@[simp] theorem State.grantPass_card (s : State) : (s.grantPass).card = s.card := by
  have h := congrArg State.card (State.grantPass_frame s); exact h
@[simp] theorem State.grantPass_lapsed (s : State) : (s.grantPass).lapsed = s.lapsed := by
  have h := congrArg State.lapsed (State.grantPass_frame s); exact h
@[simp] theorem State.grantPass_safety (s : State) : (s.grantPass).safety = s.safety := by
  have h := congrArg State.safety (State.grantPass_frame s); exact h
@[simp] theorem State.grantPass_supply (s : State) : (s.grantPass).supply = s.supply := by
  have h := congrArg State.supply (State.grantPass_frame s); exact h
@[simp] theorem State.grantPass_holder (s : State) : (s.grantPass).holder = s.holder := by
  have h := congrArg State.holder (State.grantPass_frame s); exact h
@[simp] theorem State.grantPass_doorOpen (s : State) : (s.grantPass).doorOpen = s.doorOpen := by
  have h := congrArg State.doorOpen (State.grantPass_frame s); exact h
@[simp] theorem State.grantPass_lifetime (s : State) : (s.grantPass).lifetime = s.lifetime := by
  have h := congrArg State.lifetime (State.grantPass_frame s); exact h
@[simp] theorem State.grantPass_interim (s : State) : (s.grantPass).interim = s.interim := by
  have h := congrArg State.interim (State.grantPass_frame s); exact h
@[simp] theorem State.grantPass_out2 (s : State) : (s.grantPass).out2 = s.out2 := by
  have h := congrArg State.out2 (State.grantPass_frame s); exact h
@[simp] theorem State.grantPass_out3 (s : State) : (s.grantPass).out3 = s.out3 := by
  have h := congrArg State.out3 (State.grantPass_frame s); exact h
@[simp] theorem State.grantPass_free (s : State) : (s.grantPass).free = s.free := by
  have h := congrArg State.free (State.grantPass_frame s); exact h

/-- Owners told one after another leave the claims as they are. -/
theorem State.tellAll_claims (os : List Owner) (s : State) : (os.foldl (fun s o => s.tell o) s).claims = s.claims := by
  have h := congrArg State.claims (State.tellAll_frame os s); exact h

/-- The claims after a pass: those of the owners it grants are GRANTED, and nothing else of them changes. -/
theorem State.grantPass_claims (s : State) :
    s.grantPass.claims = s.claims.map fun c =>
      if (passOwners s.budget (grantedTotal s.claims) (grantOrder s.claims)).contains c.owner then { c with granted := true }
      else c :=
  State.tellAll_claims _ _

/-- A placed claim stands behind every other, and a pass is made. -/
theorem State.placeClaim_spec (s : State) (o : Owner) (size : Nat) :
    s.placeClaim o size = (s.setClaims ((s.claims.filter fun c => decide (c.owner ≠ o)) ++
      [{ owner := o, size := size, promoted := false, granted := false, placedAt := s.now }])).grantPass := rfl

/-- A removed claim leaves the list and a pass is made; an owner without a claim changes nothing. -/
theorem State.removeClaim_spec (s : State) (o : Owner) :
    ((∃ c ∈ s.claims, c.owner = o) →
      s.removeClaim o = (s.setClaims (s.claims.filter fun c => decide (c.owner ≠ o))).grantPass) ∧
    ((∀ c ∈ s.claims, c.owner ≠ o) → s.removeClaim o = s) := by
  constructor
  · rintro ⟨c, hc, ho⟩
    have h : (s.claims.any fun c => decide (c.owner = o)) = true := List.any_eq_true.mpr ⟨c, hc, by simp [ho]⟩
    simp [State.removeClaim, h]
  · intro hn
    have h : (s.claims.any fun c => decide (c.owner = o)) = false := by
      rw [List.any_eq_false]; intro c hc; simp [hn c hc]
    simp [State.removeClaim, h]

/-! ## Commands -/

/-- A command that acts only while the part runs. -/
theorem whileRunning_running (f : State → State) (s : State) (h : s.power = .running) : whileRunning f s = .next (f s) := by
  simp [whileRunning, h]

/-- A command that acts only while the part runs leaves a part that does not as it is. -/
theorem whileRunning_stopped (f : State → State) (s : State) (h : s.power ≠ .running) : whileRunning f s = .next s := by
  simp [whileRunning, h]

/-! ## Stored regions: what a write leaves and a power-on takes -/

/-- A whole write of settings passes its check, and gives them back. -/
@[simp] theorem Region.checked_ofSettings (c : Settings) : (Region.ofSettings c).checked Settings.bytes = some c := by
  simp [Region.ofSettings, Region.checked]

/-- A whole write of running values passes its check, and gives them back. -/
@[simp] theorem Region.checked_ofRunning (r : Running) : (Region.ofRunning r).checked Running.bytes = some r := by
  simp [Region.ofRunning, Region.checked]

/-- A torn region fails its check. -/
@[simp] theorem Region.checked_torn {α : Type} (b : α → List Byte) : (Region.torn : Region α).checked b = none := rfl

/-- What a region gives is what it was written with. -/
theorem Region.checked_eq_some {α : Type} (b : α → List Byte) (x : Region α) (c : α) (h : x.checked b = some c) :
    x = .written c (crc16 (b c)) := by
  cases x with
  | torn => cases h
  | written d crc =>
    simp only [Region.checked] at h
    split at h
    · next e => cases h; rw [e]
    · cases h

/-! ## Marks, and the defrost to begin -/

/-- The next 1 s mark is ahead, by at most its period. -/
theorem markAfter_spec (t : Nat) : t < markAfter t ∧ markAfter t ≤ t + 1000 := by
  simp only [markAfter, Config.markPeriod]; omega

/-- With no defrost forced or requested the checks change nothing. -/
theorem State.defrostArises_none (before : Bool) (s : State) (h : s.mustDefrost = false) : s.defrostArises before = s := by
  have ho : s.defrostOpen = s := by simp [State.defrostOpen, h]
  have hc : s.defrostClosed = s := by simp [State.defrostClosed, h]
  cases before <;> simp [State.defrostArises, State.defrostCheck, ho, hc]

end Sys2Proof.Machine
end

