-- ==== Sys2Proof/Laws/Requests.lean ====
section
/-! SUPPORT. How a request command comes to its answer: one law for every request of the catalogue. -/

namespace Sys2Proof.Machine

/-- Every request's command is that request on its link. -/
theorem exec_commandOf (l : Link) (r : Request) (s : State) : exec (commandOf l r) s = onLink l r s := by
  cases r <;> rfl

/-- Two changes of one link's record are one change. -/
theorem State.modPort_modPort (s : State) (l : Link) (f g : LinkPort → LinkPort) :
    (s.modPort l f).modPort l g = s.modPort l fun p => g (f p) := by
  simp [State.modPort, upd]

/-- A request that passes checks 1 to 4 of R173 is handed to its owner. -/
theorem State.judge_admits (s : State) (l : Link) (r : Request) (h : s.Admits l r) : s.judge l r = s.perform l r := by
  obtain ⟨_, hg, hp⟩ := h
  by_cases hn : needsPrivilege r = true
  · simp [State.judge, hg, hn, hp hn]
  · simp [State.judge, hg, hn]

/-- A request that is taken and admitted: its owner's effect, and its owner's answer at the back of the backlog. -/
theorem exec_admitted (s : State) (l : Link) (r : Request) (h : s.Admits l r) :
    exec (commandOf l r) s = .next ((s.perform l r).1.answerOn l (r.kind + 0x80) (s.perform l r).2) := by
  have hb : s.links[l].backlog.length < Config.backlogSize := h.1.2
  rw [exec_commandOf, onLink, whileRunning_running _ _ h.1.1, State.takeRequest, State.take, if_pos hb, State.judge_admits s l r h]
  rfl

/-- A request on a link whose backlog is full sets BACKLOG and does nothing else (R171). -/
theorem State.takeRequest_full (s : State) (l : Link) (r : Request) (h : Config.backlogSize ≤ s.links[l].backlog.length) :
    s.takeRequest l r = s.setError l .backlog := by
  rw [State.takeRequest, State.take, if_neg (Nat.not_lt.mpr h)]

end Sys2Proof.Machine
end

