-- ==== Sys2Proof/Laws/PerInstr.lean ====
section
/-! SUPPORT. A family of facts about the commands as syntax: which commands a frame on a link carries, and how long its body is. -/

namespace Sys2Proof.Laws.Wire

open Sys2Proof Sys2Proof.Machine

/-- The frame of a command's request: its body has the length that the catalogue gives the kind (10.9), and the whole frame five
bytes more (10.2); and a link carries no other request as the same command. -/
def Statement (i : Instr) : Prop :=
  (∀ l r, commandOf l r = i → bodyLength r.kind = some r.body.length ∧ r.frame.length = r.body.length + 5) ∧
  (∀ l m r q, commandOf l r = i → commandOf m q = i → l = m ∧ r = q)

/-- The length of a frame (10.2). -/
theorem frame_length (r : Request) : r.frame.length = r.body.length + 5 := by
  simp [Request.frame, frameOf, le16]

/-- The catalogue's body length is that of the request's body (10.9). -/
theorem body_length (r : Request) : bodyLength r.kind = some r.body.length := by
  cases r <;> rfl

/-- Two requests with one command are one request on one link. -/
theorem command_unique (l m : Link) (r q : Request) (h : commandOf l r = commandOf m q) : l = m ∧ r = q := by
  cases r <;> cases q <;> first
    | (injection h with h1; exact ⟨h1, rfl⟩)
    | (injection h with h1 h2; subst h1; subst h2; exact ⟨rfl, rfl⟩)
    | (injection h with h1 h2 h3; subst h1; subst h2; subst h3; exact ⟨rfl, rfl⟩)
    | exact absurd h (by intro e; cases e)

/-- The law of every command. -/
theorem every (i : Instr) : Statement i :=
  ⟨fun _ r _ => ⟨body_length r, frame_length r⟩, fun l m r q h1 h2 => command_unique l m r q (h1.trans h2.symm)⟩

theorem powerOn (cause : PowerOnCause) (level : Nat) (tubes : TubeLevels) : Statement (.powerOn cause level tubes) := every _
theorem powerRecovery (level : Nat) (tubes : TubeLevels) : Statement (.powerRecovery level tubes) := every _
theorem powerFail : Statement .powerFail := every _
theorem resetNAssert : Statement .resetNAssert := every _
theorem runningRegionSaveEnd : Statement .runningRegionSaveEnd := every _
theorem supplyLow (level : Nat) : Statement (.supplyLow level) := every _
theorem supplyGood (level : Nat) : Statement (.supplyGood level) := every _
theorem linkByte (l : Link) (b : Byte) (stopOk : Bool) : Statement (.linkByte l b stopOk) := every _
theorem gap (l : Link) : Statement (.gap l) := every _
theorem responseSent (l : Link) : Statement (.responseSent l) := every _
theorem ident (l : Link) : Statement (.ident l) := every _
theorem fetchNotices (l : Link) : Statement (.fetchNotices l) := every _
theorem linkStatus (l : Link) : Statement (.linkStatus l) := every _
theorem clearLinkErrors (l : Link) (mask : Byte) : Statement (.clearLinkErrors l mask) := every _
theorem linkReset (l : Link) : Statement (.linkReset l) := every _
theorem order (l : Link) (sel : Byte) : Statement (.order l sel) := every _
theorem cancelOrder (l : Link) (id : Byte) : Statement (.cancelOrder l id) := every _
theorem returnCredit (l : Link) : Statement (.returnCredit l) := every _
theorem readCredit (l : Link) : Statement (.readCredit l) := every _
theorem readSelection (l : Link) (sel : Byte) : Statement (.readSelection l sel) := every _
theorem cardOpen (l : Link) (funds : Word16) : Statement (.cardOpen l funds) := every _
theorem cardApprove (l : Link) (id : Byte) (decision : Byte) : Statement (.cardApprove l id decision) := every _
theorem cardClose (l : Link) : Statement (.cardClose l) := every _
theorem remoteOrder (l : Link) (sel : Byte) : Statement (.remoteOrder l sel) := every _
theorem readAudit (l : Link) (copy : Byte) (group : Byte) : Statement (.readAudit l copy group) := every _
theorem readTubes (l : Link) : Statement (.readTubes l) := every _
theorem readCooling (l : Link) : Statement (.readCooling l) := every _
theorem clearInterim (l : Link) : Statement (.clearInterim l) := every _
theorem setPrice (l : Link) (sel : Byte) (price : Word16) : Statement (.setPrice l sel price) := every _
theorem setSelection (l : Link) (a : SelectionArgs) : Statement (.setSelection l a) := every _
theorem setCoinType (l : Link) (a : CoinTypeArgs) : Statement (.setCoinType l a) := every _
theorem setTube (l : Link) (a : TubeArgs) : Statement (.setTube l a) := every _
theorem setCooling (l : Link) (a : CoolingArgs) : Statement (.setCooling l a) := every _
theorem setBudget (l : Link) (a : BudgetArgs) : Statement (.setBudget l a) := every _
theorem setLink (l : Link) (a : LinkArgs) : Statement (.setLink l a) := every _
theorem setSales (l : Link) (a : SalesArgs) : Statement (.setSales l a) := every _
theorem saveSettings (l : Link) : Statement (.saveSettings l) := every _
theorem settingsSaveEnd : Statement .settingsSaveEnd := every _
theorem serviceEnter (l : Link) : Statement (.serviceEnter l) := every _
theorem serviceLeave (l : Link) : Statement (.serviceLeave l) := every _
theorem clearHold (l : Link) (sel : Byte) (kind : Byte) : Statement (.clearHold l sel kind) := every _
theorem safetyRelease (l : Link) : Statement (.safetyRelease l) := every _
theorem protect (l : Link) (sel : Byte) (value : Byte) : Statement (.protect l sel value) := every _
theorem testTurn (l : Link) (sel : Byte) : Statement (.testTurn l sel) := every _
theorem tubeDispense (l : Link) (tube : Byte) (coins : Byte) : Statement (.tubeDispense l tube coins) := every _
theorem probeMotors (l : Link) : Statement (.probeMotors l) := every _
theorem setTubeCount (l : Link) (tube : Byte) (count : Byte) : Statement (.setTubeCount l tube count) := every _
theorem forceDefrost (l : Link) : Statement (.forceDefrost l) := every _
theorem setOutputs (l : Link) (value : Byte) : Statement (.setOutputs l value) := every _
theorem softRestart (l : Link) : Statement (.softRestart l) := every _
theorem baselineMeasurement (count : BitVec 16) (amp : BitVec 12) : Statement (.baselineMeasurement count amp) := every _
theorem coinPassageStart (amp : BitVec 12) : Statement (.coinPassageStart amp) := every _
theorem passageGateEnd (count : BitVec 16) (amp : BitVec 12) : Statement (.passageGateEnd count amp) := every _
theorem passed (amp : BitVec 12) : Statement (.passed amp) := every _
theorem acceptGateClose : Statement .acceptGateClose := every _
theorem creditPulse : Statement .creditPulse := every _
theorem coinDeadline : Statement .coinDeadline := every _
theorem rejectPeriodEnd : Statement .rejectPeriodEnd := every _
theorem lockoutEnd : Statement .lockoutEnd := every _
theorem tubeSensorChange (tube : TubeNo) (sensor : TubeSensor) (covered : Bool) : Statement (.tubeSensorChange tube sensor covered) := every _
theorem planningEnd : Statement .planningEnd := every _
theorem ejectPulseEnd : Statement .ejectPulseEnd := every _
theorem exitWindowClose : Statement .exitWindowClose := every _
theorem nextCoinStart : Statement .nextCoinStart := every _
theorem exitPulse : Statement .exitPulse := every _
theorem doorChange (isOpen : Bool) : Statement (.doorChange isOpen) := every _
theorem approvalDeadline (id : Nat) : Statement (.approvalDeadline id) := every _
theorem cardIdleExpiry : Statement .cardIdleExpiry := every _
theorem openCheck (current : Nat) : Statement (.openCheck current) := every _
theorem camLeavesHome (pos : Pos) : Statement (.camLeavesHome pos) := every _
theorem startLimit : Statement .startLimit := every _
theorem jamCurrent (current : Nat) : Statement (.jamCurrent current) := every _
theorem turnLimit : Statement .turnLimit := every _
theorem camHomes (pos : Pos) : Statement (.camHomes pos) := every _
theorem brakeEnd : Statement .brakeEnd := every _
theorem dropWindowClose : Statement .dropWindowClose := every _
theorem drop (early : Bool) : Statement (.drop early) := every _
theorem lateDropExpiry : Statement .lateDropExpiry := every _
theorem dropFault : Statement .dropFault := every _
theorem dropOk : Statement .dropOk := every _
theorem probeStepEnd (current : Nat) : Statement (.probeStepEnd current) := every _
theorem zoneSample (reading : BitVec 12) : Statement (.zoneSample reading) := every _
theorem evapSample (reading : BitVec 12) : Statement (.evapSample reading) := every _
theorem startDelayEnd : Statement .startDelayEnd := every _
theorem compressorResize : Statement .compressorResize := every _
theorem minOffEnd : Statement .minOffEnd := every _
theorem pullDown : Statement .pullDown := every _
theorem defrostForced : Statement .defrostForced := every _
theorem defrostTimeEnd : Statement .defrostTimeEnd := every _
theorem drainEnd : Statement .drainEnd := every _
theorem fbOffEnd : Statement .fbOffEnd := every _
theorem fbOnEnd : Statement .fbOnEnd := every _
theorem setbackExpiry : Statement .setbackExpiry := every _
theorem compressorPromotion : Statement .compressorPromotion := every _

end Sys2Proof.Laws.Wire
end

