-- ==== Sys2Proof/WellFormed.lean ====
section
/-! DEFINITION. Well-formed commands: the operands that a command's rule lets it carry. A request carries any body of its
kind's length (R171); a value outside its range is answered BAD_ARG by its owner, so every request is well-formed. -/

namespace Sys2Proof

/-- The operands meet the condition under which the manual has the command arise. -/
def Instr.wf : Instr → Bool
  | .powerRecovery level _ => decide (90 < level)
  | .supplyLow level => decide (70 ≤ level ∧ level < 85)
  | .supplyGood level => decide (90 < level)
  | .baselineMeasurement _ amp => decide (Config.presenceThreshold < amp.toNat)
  | .coinPassageStart amp => decide (amp.toNat < Config.presenceThreshold)
  | .approvalDeadline id => decide (1 ≤ id ∧ id ≤ 255)
  | .jamCurrent current => decide (Config.jamThreshold < current)
  | .powerOn _ _ _ => true
  | .powerFail => true
  | .resetNAssert => true
  | .runningRegionSaveEnd => true
  | .linkByte _ _ _ => true
  | .gap _ => true
  | .responseSent _ => true
  | .ident _ => true
  | .fetchNotices _ => true
  | .linkStatus _ => true
  | .clearLinkErrors _ _ => true
  | .linkReset _ => true
  | .order _ _ => true
  | .cancelOrder _ _ => true
  | .returnCredit _ => true
  | .readCredit _ => true
  | .readSelection _ _ => true
  | .cardOpen _ _ => true
  | .cardApprove _ _ _ => true
  | .cardClose _ => true
  | .remoteOrder _ _ => true
  | .readAudit _ _ _ => true
  | .readTubes _ => true
  | .readCooling _ => true
  | .clearInterim _ => true
  | .setPrice _ _ _ => true
  | .setSelection _ _ => true
  | .setCoinType _ _ => true
  | .setTube _ _ => true
  | .setCooling _ _ => true
  | .setBudget _ _ => true
  | .setLink _ _ => true
  | .setSales _ _ => true
  | .saveSettings _ => true
  | .settingsSaveEnd => true
  | .serviceEnter _ => true
  | .serviceLeave _ => true
  | .clearHold _ _ _ => true
  | .safetyRelease _ => true
  | .protect _ _ _ => true
  | .testTurn _ _ => true
  | .tubeDispense _ _ _ => true
  | .probeMotors _ => true
  | .setTubeCount _ _ _ => true
  | .forceDefrost _ => true
  | .setOutputs _ _ => true
  | .softRestart _ => true
  | .passageGateEnd _ _ => true
  | .passed _ => true
  | .acceptGateClose => true
  | .creditPulse => true
  | .coinDeadline => true
  | .rejectPeriodEnd => true
  | .lockoutEnd => true
  | .tubeSensorChange _ _ _ => true
  | .planningEnd => true
  | .ejectPulseEnd => true
  | .exitWindowClose => true
  | .nextCoinStart => true
  | .exitPulse => true
  | .doorChange _ => true
  | .cardIdleExpiry => true
  | .openCheck _ => true
  | .camLeavesHome _ => true
  | .startLimit => true
  | .turnLimit => true
  | .camHomes _ => true
  | .brakeEnd => true
  | .dropWindowClose => true
  | .drop _ => true
  | .lateDropExpiry => true
  | .dropFault => true
  | .dropOk => true
  | .probeStepEnd _ => true
  | .zoneSample _ => true
  | .evapSample _ => true
  | .startDelayEnd => true
  | .compressorResize => true
  | .minOffEnd => true
  | .pullDown => true
  | .defrostForced => true
  | .defrostTimeEnd => true
  | .drainEnd => true
  | .fbOffEnd => true
  | .fbOnEnd => true
  | .setbackExpiry => true
  | .compressorPromotion => true

end Sys2Proof
end

