-- ==== Sys2Proof/Tests/Slice0.lean ====
section
/-! SUPPORT. Tests: ill-formed operands refused, figures and single steps of the manual's worked examples, and for each statement
concrete states that meet its hypotheses (`wit_<statement>`, one conjunct for each of its cases). -/

namespace Sys2Proof.Tests

open Sys2Proof Sys2Proof.Machine

set_option Elab.async false

/-! ## Ill-formed operands -/

theorem test_wf_recovery : (Instr.powerRecovery 90 ⟨.replicate 5 false, .replicate 5 false⟩).wf = false ∧
    (Instr.powerRecovery 91 ⟨.replicate 5 false, .replicate 5 false⟩).wf = true := by decide +kernel
theorem test_wf_supply_low : (Instr.supplyLow 69).wf = false ∧ (Instr.supplyLow 85).wf = false ∧
    (Instr.supplyLow 70).wf = true ∧ (Instr.supplyLow 84).wf = true := by decide
theorem test_wf_supply_good : (Instr.supplyGood 90).wf = false ∧ (Instr.supplyGood 91).wf = true := by decide
theorem test_wf_baseline : (Instr.baselineMeasurement 0 3072).wf = false ∧ (Instr.baselineMeasurement 0 3073).wf = true := by
  decide +kernel
theorem test_wf_passage : (Instr.coinPassageStart 3072).wf = false ∧ (Instr.coinPassageStart 3071).wf = true := by decide +kernel
theorem test_wf_approval : (Instr.approvalDeadline 0).wf = false ∧ (Instr.approvalDeadline 256).wf = false ∧
    (Instr.approvalDeadline 255).wf = true := by decide
theorem test_wf_jam : (Instr.jamCurrent 1500).wf = false ∧ (Instr.jamCurrent 1501).wf = true := by decide

/-! ## Small states -/

/-- The part after power-on with its probe over: IDLE, door closed, links empty, factory settings. -/
def plain : State :=
  { State.reset with
    links := Vector.replicate 3 initPort, drive := initDrive,
    claims := [{ owner := .lighting, size := 4, promoted := false, granted := true, placedAt := 0 }] }

/-- Link 0 holds service privilege with the door open. -/
def serviced : State := { plain with holder := some 0, doorOpen := true }

/-- A CASH session with this credit. -/
def cash (n : Nat) : State := { plain with credit := { idleCredit with session := .cash, cash := n } }

/-- A CARD session of link 1 with funds 500. -/
def carded : State :=
  { plain with
    credit := { idleCredit with session := .card },
    card := some { link := 1, funds := 500, reserved := 0, idleEnd := some 60000, closing := none } }

/-- Order 7 for B3 at price 120. -/
def order7 (f : Funding) (st : OrderState) : Order :=
  { id := 7, sel := 13, spirals := { first := 13, pair := false }, price := 120, funding := f, origin := 0,
    cardLink := if f = .card then some 1 else none, state := st, turns := 1,
    deadline := if st = .waitApproval then some 10000 else none, endReason := none }

/-- A granted claim. -/
def granted (o : Owner) (n : Nat) : Claim := { owner := o, size := n, promoted := false, granted := true, placedAt := 0 }

/-- What the drive serves for order 7. -/
def service7 (seen : Bool) : Service :=
  { order := 7, spirals := { first := 13, pair := false }, profile := factorySales.ambient, dropSeen := seen }

/-- Order 7 of a CASH session is TURNING; the drive is in this phase. -/
def turning (p : DrivePhase) (cams : List CamState) (seen : Bool) : State :=
  { plain with
    credit := { idleCredit with session := .cash, cash := 200, reserved := 120 },
    queue := [order7 .cash .turning], lastId := 7, claims := [granted .lighting 4, granted .vend 6],
    drive := { initDrive with
      phase := p, service := some (service7 seen), cams := cams,
      brake := if p = .brake then some { spirals := { first := 13, pair := false }, till := 100, owned := true } else none,
      windowEnd := if p = .window then some 1600 else none } }

/-- An enabled tube of this value and floor. -/
def tubeOf (value floor : Nat) : TubeSettings :=
  { enabled := true, value := value, capacity := 100, fullMark := 90, lowMark := 5, floor := floor }

/-- A tube's record: low sensor COVERED, full sensor CLEAR. -/
def tubeAt (n : Nat) : TubeRun := { count := n, full := false, low := true }

/-- The tubes of 3.2.1, in a CASH session of credit 160. -/
def twoPasses : State :=
  { cash 160 with
    settings := { factorySettings with tubes := #v[tubeOf 100 2, tubeOf 50 2, tubeOf 20 3, tubeOf 10 0, factoryTube] },
    tubes := #v[tubeAt 4, tubeAt 4, tubeAt 5, tubeAt 0, tubeAt 0] }

/-- The tubes of 3.2.2, in a CASH session of credit 105. -/
def merged : State :=
  { cash 105 with
    settings := { factorySettings with
      tubes := #v[tubeOf 50 0, tubeOf 50 2, tubeOf 20 0, { tubeOf 10 0 with enabled := false }, factoryTube] },
    tubes := #v[tubeAt 1, tubeAt 3, tubeAt 5, tubeAt 12, tubeAt 0] }

/-- A session payout of 160 over the tubes of 3.2.1, in this state. -/
def paying (st : PayState) : State :=
  let s := twoPasses
  { s with
    credit := { s.credit with payoutActive := true },
    payout := { initPayout with
      kind := some .session, requested := 160, state := st,
      answer := if st = .planning then some { counts := [(100, 1), (50, 0), (20, 3), (10, 0)], pass := .two, owed := 0 } else none,
      plan := if st = .planning then none else some { counts := [(100, 1), (50, 0), (20, 3), (10, 0)], pass := .two, owed := 0 },
      remaining := if st = .planning then [] else [(100, 1), (50, 0), (20, 3), (10, 0)] },
    claims := if st = .ejecting then [granted .lighting 4, granted .payout 3] else [granted .lighting 4] }

/-- The first coin attempt of that payout: tube 0, this pulse, seen at the exit or not. -/
def attempt (pulse : Nat) (seen : Option Nat) : State :=
  (paying .ejecting).modPayout fun p =>
    { p with
      current := some { tube := 0, pulse := pulse, driven := true, seenAt := seen, pulseEnd := 40, windowEnd := 190 },
      last := some { tube := 0, kind := .session, origin := 0 },
      remaining := if seen.isSome then [(100, 0), (50, 0), (20, 3), (10, 0)] else p.remaining }

/-- A dispense of two coins from tube 0, in its first attempt. -/
def dispensing (seen : Option Nat) : State :=
  { serviced with
    settings := twoPasses.settings, tubes := twoPasses.tubes, claims := [granted .lighting 4, granted .payout 3],
    payout := { initPayout with
      kind := some .dispense, tube := some 0, requested := 2, coins := 2, state := .ejecting,
      current := some { tube := 0, pulse := 1, driven := true, seenAt := seen, pulseEnd := 40, windowEnd := 190 },
      last := some { tube := 0, kind := .dispense, origin := 0 } } }

/-- The compressor runs since 200 s, and the zone stands at this temperature. -/
def cooled (st : CoolState) (t : Int) : State :=
  { plain with
    now := 300000,
    claims := if st = .running then [granted .lighting 4, granted .compressor 18] else [granted .lighting 4],
    safety := { initSafety with check := false },
    cooling := { plain.cooling with
      state := st, zone := { fault := false, count := 0, filtered := some t, raw := some 2100 },
      runStart := if st = .running then some 200000 else none, resized := true, nextZone := 301000, nextEvap := 301000,
      setbackEnd := some 3600000 } }

/-- The state a command leads to. -/
def after (c : Instr) (s : State) : State :=
  match exec c s with
  | .next t => t
  | .fault f => nomatch f
  | .refused _ => s

/-- `State.Admits`, as a test. -/
def admitted (s : State) (l : Link) (r : Request) : Bool :=
  decide (s.power = .running) && decide (s.links[l].backlog.length < 2) && s.hasGroup l r &&
    (!needsPrivilege r || decide (s.holder = some l))

/-- The test says what `State.Admits` says. -/
theorem admitted_admits (s : State) (l : Link) (r : Request) : admitted s l r = true ↔ s.Admits l r := by
  cases h : needsPrivilege r <;> simp [admitted, State.Admits, State.Takes, h, and_assoc]

/-- `State.Quiet`, as a test. -/
def quiet (s : State) : Bool :=
  (s.queue.head?.all fun o => !decide (o.state = .waitGrant) || !s.isGranted .vend) && !s.payout.isEmpty

/-- The test says what `State.Quiet` says. -/
theorem quiet_quiet (s : State) : quiet s = true ↔ s.Quiet := by
  cases h : s.queue.head? with
  | none => simp [quiet, State.Quiet, h]
  | some o => by_cases hw : o.state = .waitGrant <;> simp [quiet, State.Quiet, h, hw]

/-! ## Figures of the manual -/

/-- R168: the CRC over the characters 123456789. -/
theorem test_crc : crc16 [0x31, 0x32, 0x33, 0x34, 0x35, 0x36, 0x37, 0x38, 0x39] = 0x29B1 := by decide +kernel
/-- 7.1.1: the conversion. -/
theorem test_convert : [convert 64, convert 2100, convert 2700, convert 4031] = [1162, 138, -3, -502] := by decide +kernel
/-- 7.2.1: the filter's run to a steady 7.5 °C, and the falling case. -/
theorem test_filter : (List.range 11).foldl (fun fs _ => fs ++ [filterStep (fs.getLast?.getD 60) 75]) [] =
    [63, 66, 68, 69, 70, 71, 72, 73, 74, 75, 75] ∧ filterStep 30 (-3) = 22 := by decide +kernel
/-- 3.2.1: pass 2 pays 160 with one coin of 100 and three of 20. -/
theorem test_plan_two_passes :
    twoPasses.planFor 160 = { counts := [(100, 1), (50, 0), (20, 3), (10, 0)], pass := .two, owed := 0 } := by decide +kernel
/-- 3.2.2: the under-pay plan of 105 is two coins of 50; the first comes from tube 1. -/
theorem test_plan_under_pay :
    merged.planFor 105 = { counts := [(50, 2), (20, 0)], pass := .under, owed := 5 } ∧ merged.chooseTube 50 .under = some 1 := by
  decide +kernel
/-- R81: 255 is followed by 1, and an id in use is passed over. -/
theorem test_next_id : ({ plain with lastId := 255 } : State).nextId = 1 ∧
    ({ plain with lastId := 6, queue := [order7 .cash .ready] } : State).nextId = 8 := by decide +kernel
/-- R55, 11.6: with no tube enabled the horizon cannot be paid. -/
theorem test_exact_change_reset : plain.evalExact = plain ∧ plain.out1Pin = true := by decide +kernel

/-! ## Single steps of the manual's examples -/

/-- R174: the part code 0x3C40, the revision and the link. -/
theorem test_ident : (after (.ident 2) plain).links[2].backlog = [⟨0x81, [0x00, 0x40, 0x3C, 0x01, 0x02]⟩] := by decide +kernel
/-- R180, 10.7.1: a full queue discards and sets overflow; the mirroring link gets one copy with source link 0. -/
theorem test_full_queue :
    let full := plain.modPort 1 fun p => { p with notices := List.replicate 16 ⟨.system .powerUp 0, none⟩ }
    let t := full.deliver (.vendResult 44 150 .noDrop) [0, 1]
    t.links[0].notices.length = 1 ∧ t.links[1].notices.length = 16 ∧ t.links[1].overflow = true ∧
      t.links[2].notices = [⟨.vendResult 44 150 .noDrop, some 0⟩] := by decide +kernel

/-- The machine of 2.8: coin type 3 of 50 units for tube 1 at count 48, credit 200. -/
def nearlyFull : State :=
  { cash 200 with
    settings := { factorySettings with
      coins := factorySettings.coins.set 3
        { enabled := true, value := 50, fMin := 100, fMax := 200, aMin := 0, aMax := 100, dest := some 1 },
      tubes := factorySettings.tubes.set 1
        { enabled := true, value := 50, capacity := 60, fullMark := 50, lowMark := 5, floor := 0 } },
    tubes := plain.tubes.set 1 (tubeAt 48),
    coin := { initCoin with
      baseline := some { count := 10000, amp := 4000 },
      passage := some { lowCount := some 9850, lowAmp := 3000, gateEnd := 4 } } }

/-- 2.8, step 1: coin A is accepted for tube 1, with the gate open for 150 ms and the diverter de-energized. -/
theorem test_passed_accepts :
    (after .passed nearlyFull).coin.inFlight = [{ type := 3, value := 50, route := some 1, fill := false, deadline := 300 }] ∧
      (after .passed nearlyFull).coin.gateEnd = some 150 ∧ (after .passed nearlyFull).divertPin = false := by decide +kernel
/-- 2.8, step 3: the pulse counts the coin into tube 1 and the credit. -/
theorem test_credit_pulse :
    let t := after .creditPulse (after .passed nearlyFull)
    t.tubes[1].count = 49 ∧ t.credit.cash = 250 ∧ t.lifetime[Counter.code .cashIn] = 50 ∧
      t.lifetime[Counter.code .toTubes] = 50 := by decide +kernel
/-- 2.8, step 4: the full sensor raises the count from 49 to 50, and ADJUST_UP to 50. -/
theorem test_full_sensor :
    let t := after (.tubeSensorChange 1 .full true) { nearlyFull with tubes := plain.tubes.set 1 (tubeAt 49) }
    t.tubes[1].count = 50 ∧ t.lifetime[Counter.code .adjustUp] = 50 := by decide +kernel
/-- 2.8, step 7: the coin is lost and COINS_LOST rises by 50. -/
theorem test_coin_deadline :
    let t := after .coinDeadline (after .passed nearlyFull)
    t.coin.inFlight = [] ∧ t.credit.cash = 200 ∧ t.lifetime[Counter.code .coinsLost] = 50 := by decide +kernel
/-- 1.10, step 9: order 18 reserves 90 behind 120. -/
theorem test_order_cash :
    let s : State := { cash 250 with
      credit := { idleCredit with session := .cash, cash := 250, reserved := 120 },
      queue := [order7 .cash .ready], lastId := 17,
      settings := { factorySettings with sels := upd factorySettings.sels 57 fun e => { e with price := 90 } } }
    (after (.order 0 57) s).credit.reserved = 210 ∧ (after (.order 0 57) s).queue.map (·.id) = [7, 18] := by decide +kernel
/-- 1.10, step 7: 80 available is less than 90. -/
theorem test_order_insufficient :
    let s : State := { cash 200 with
      credit := { idleCredit with session := .cash, cash := 200, reserved := 120 },
      settings := { factorySettings with sels := upd factorySettings.sels 57 fun e => { e with price := 90 } } }
    after (.order 0 57) s = s.modPort 0 fun p => { p with backlog := [⟨0x90, [0x21]⟩] } := by decide +kernel
/-- R11: a CASH order of 120 succeeds at the end of its brake: credit 200 − 120, reserved 0. -/
theorem test_brake_done :
    let t := after .brakeEnd (turning .brake [] true)
    t.queue = [] ∧ t.lifetime[Counter.code .cashSales] = 120 ∧ t.credit.reserved = 0 ∧ t.credit.cash = 80 := by decide +kernel
/-- 3.6: the coin of 100 seen at the exit: credit 160 − 100, PAID_OUT 100, tube 0 at 3. -/
theorem test_exit_pulse :
    let t := after .exitPulse (attempt 1 none)
    t.credit.cash = 60 ∧ t.lifetime[Counter.code .paidOut] = 100 ∧ t.tubes[0].count = 3 ∧ t.payout.paid = 100 := by
  decide +kernel
/-- 6.9, 0.0 s: CARD_OPEN with 500. -/
theorem test_card_open :
    let t := after (.cardOpen 1 500) plain
    t.credit.session = .card ∧ t.card.map (·.funds) = some 500 ∧ t.card.map (·.idleEnd) = some (some 60000) := by decide +kernel
/-- 5.9, 2,930 ms: the last cam homes and the short-brake of 100 ms begins. -/
theorem test_cam_homes :
    let t := after (.camHomes 13) { turning .run [.left] false with now := 2930 }
    t.drive.phase = .brake ∧ t.drive.brake.map (·.till) = some 3030 ∧ t.rowPin 1 = false ∧ t.colPin 3 = .shorted := by
  decide +kernel
/-- 9.8, 5.8 s: the released VEND claim lets the compressor in, and the next order's claim waits behind it. -/
theorem test_grant_pass :
    let compressor : Claim := { owner := .compressor, size := 45, promoted := false, granted := false, placedAt := 0 }
    let s : State := { plain with
      supply := .low, settings := { factorySettings with budget := { factoryBudget with low := 50 } },
      cooling := { plain.cooling with state := .waitGrant },
      claims := [granted .lighting 4, granted .vend 12, compressor] }
    let t := s.removeClaim .vend
    t.cooling.state = .running ∧ grantedTotal t.claims = 49 ∧ (t.placeClaim .vend 6).isWaiting .vend = true := by decide +kernel
/-- 8.7, 47:00: the 1,800th counted second holds, with the peak of 9.4 °C. -/
theorem test_safety_held :
    let s : State := { plain with
      safety := { state := .timing, excursion := 1799, cause := none, peak := some 94, check := false },
      cooling := { plain.cooling with state := .running, zone := { fault := false, count := 0, filtered := some 78, raw := some 0 } } }
    s.safetySample.safety = { state := .held, excursion := 0, cause := some .temp, peak := some 94, check := false } := by
  decide +kernel
/-- R143: the tenth good reading ends a fault; the pins of a running compressor follow. -/
theorem test_fault_ends :
    let s := (cooled .running 60).modCooling fun c => { c with
      state := .fallback, fallback := some .fbOff, runStart := none,
      zone := { fault := true, count := 9, filtered := some 60, raw := some 0 } }
    (after (.zoneSample 2700) s).cooling.state = .idle ∧ (after (.zoneSample 2700) s).cooling.zone.filtered = some (-3) := by
  decide +kernel

/-! ## Witnesses: links and the queue of commands -/

theorem wit_StepRunsFrontCommand : ({ plain with pending := [.passed, .gap 0] } : State).pending = .passed :: [.gap 0] := by
  decide +kernel
theorem wit_ClockTicksAndAdvances :
    (plain.pending = [] ∧ plain.power = .running ∧ (cooled .running 60).pending = [] ∧ (cooled .running 60).power = .running) ∧
    (({ plain with power := .stopped } : State).pending = [] ∧ ({ plain with power := .stopped } : State).power ≠ .running) ∧
    (0 ≤ plain.now ∧ plain.now < 1) := by decide +kernel
theorem wit_EveryCommandCompletes :
    Instr.passed ≠ .powerFail ∧ Instr.passed ≠ .resetNAssert ∧ Instr.passed ≠ .runningRegionSaveEnd ∧
      (∀ k lv tb, Instr.passed ≠ .powerOn k lv tb) ∧ (∀ lv tb, Instr.passed ≠ .powerRecovery lv tb) ∧
      plain.startAfter = none := by
  simp [plain, State.reset]
theorem wit_StoppedPartIgnoresCommands :
    ({ plain with power := .saving } : State).power ≠ .running ∧ Instr.powerFail ≠ .resetNAssert ∧
      Instr.powerFail ≠ .runningRegionSaveEnd ∧ Instr.powerFail ≠ .settingsSaveEnd ∧
      (∀ k lv tb, Instr.powerFail ≠ .powerOn k lv tb) ∧ ∀ lv tb, Instr.powerFail ≠ .powerRecovery lv tb := by
  refine ⟨by decide +kernel, ?_⟩; simp
theorem wit_FrameBytesActAsRequest : plain.power = .running ∧ plain.links[0].rx = .awaitSync := by decide +kernel

/-- Link 0 in this receive state. -/
def received (x : RxState) : State := plain.modPort 0 fun p => { p with rx := x }

theorem wit_ReceiverTakesBytesAndGaps :
    plain.power = .running ∧ (received .kind).links[0].rx = .kind ∧ (received (.length 0x40)).links[0].rx = .length 0x40 ∧
    (received (.body 0x40 3 [1, 2])).links[0].rx = .body 0x40 3 [1, 2] ∧
    (received (.crcLo 0x01 [])).links[0].rx = .crcLo 0x01 [] ∧ (received .kind).links[0].rx ≠ .awaitSync := by decide +kernel
/-- The length boundary of R169: 56 bytes are a body, 57 set LENGTH, 0 goes on to the CRC. -/
theorem test_length_boundary :
    (after (.linkByte 0 56 true) (received (.length 0x40))).links[0].rx = .body 0x40 56 [] ∧
    (after (.linkByte 0 57 true) (received (.length 0x40))).links[0].errors = 0b000100 ∧
    (after (.linkByte 0 0 true) (received (.length 0x40))).links[0].rx = .crcLo 0x40 [] := by decide +kernel

/-- Two responses wait on link 0. -/
def backlogged (s : State) : State := s.modPort 0 fun p => { p with backlog := [⟨0x81, [0]⟩, ⟨0x82, [0]⟩] }

/-- The CRC of a frame of this kind and body. -/
def crcOf (k : Byte) (body : List Byte) : Word16 := crc16 (k :: byte body.length :: body)

/-- Link 0 awaits the CRC's high byte of a frame of this kind and body. -/
def awaitsCrc (k : Byte) (body : List Byte) : State := received (.crcHi k body ((crcOf k body).setWidth 8))

/-- The CRC's high byte. -/
def crcTop (k : Byte) (body : List Byte) : Byte := ((crcOf k body) >>> 8).setWidth 8

theorem wit_LastByteJudgesFrame :
    (∀ f ∈ ([(0x01, []), (0x06, []), (0x04, []), (0x10, [13])] : List (Byte × List Byte)),
      (awaitsCrc f.1 f.2).power = .running ∧
      (awaitsCrc f.1 f.2).links[0].rx = .crcHi f.1 f.2 ((crcOf f.1 f.2).setWidth 8) ∧
      (crcTop f.1 f.2 ++ (crcOf f.1 f.2).setWidth 8 : Word16) = crcOf f.1 f.2 ∧
      (awaitsCrc f.1 f.2).links[0].backlog.length < 2) ∧
    (crcTop 0x01 [] + 1 ++ (crcOf 0x01 []).setWidth 8 : Word16) ≠ crcOf 0x01 [] ∧
    2 ≤ (backlogged (awaitsCrc 0x01 [])).links[0].backlog.length ∧ bodyLength 0x06 = none ∧
    (bodyLength 0x04 = some 1 ∧ ([] : List Byte).length ≠ 1) ∧
    Request.parse 0x01 [] = some .ident ∧ Request.parse 0x10 [13] = some (.order 13) := by decide +kernel
theorem wit_RequestsAreAdmitted :
    plain.power = .running ∧ 2 ≤ (backlogged plain).links[0].backlog.length ∧
    (plain.links[1].backlog.length < 2 ∧ plain.hasGroup 1 (.order 13) = false) ∧
    (plain.links[0].backlog.length < 2 ∧ plain.hasGroup 0 .softRestart = true ∧ needsPrivilege .softRestart = true ∧
      plain.holder ≠ some 0) := by decide +kernel
/-- The catalogue of 10.9: an AUDIT master reads a selection and may not price it, and pricing needs no privilege. -/
theorem test_catalogue :
    let s := plain.modPort 0 id
    let t : State := { s with settings := { s.settings with links := upd s.settings.links 0 fun k => { k with roles := 0b001000 } } }
    t.hasGroup 0 (.readSelection 1) = true ∧ t.hasGroup 0 (.setPrice 1 1) = false ∧ needsPrivilege (.setPrice 1 1) = false ∧
      needsPrivilege .saveSettings = true := by decide +kernel
theorem wit_NoticesReachQueues : ([0, 1] : List Link).Nodup ∧ plain.settings.links[2].mirror = true ∧
    plain.settings.links[2].mask.getLsbD (NoticeBody.kind (.system .powerUp 0)) = true ∧ plain.settings.links[0].mirror = false := by
  decide +kernel
theorem wit_LinkRequestsReportAndClear : (plain.power = .running ∧ plain.links[1].backlog.length < 2) ∧
    (63 : Byte).toNat < 64 ∧ 64 ≤ (64 : Byte).toNat := by decide +kernel

/-- Order 7 of a CARD session of link 1 stands in the queue in this state. -/
def cardOrder (st : OrderState) : State :=
  { carded with
    card := some { link := 1, funds := 500, reserved := 120, idleEnd := none, closing := none },
    queue := [order7 .card st], lastId := 7 }

/-- The TEST order 7 of link 0, which holds privilege, stands in the queue in this state. -/
def testOrder (st : OrderState) : State := { serviced with queue := [order7 .test st], lastId := 7 }

theorem wit_LinkResetClearsOwnLink : (carded.power = .running ∧ carded.links[0].backlog.length < 2 ∧ quiet carded = true) ∧
    (carded.holder ≠ some 0 ∧ carded.card.map (·.link) = some 1) ∧ (serviced.holder = some 0 ∧ quiet serviced = true) ∧
    ((testOrder .ready).holder = some 0 ∧ (testOrder .ready).card = none ∧ ((testOrder .ready).queue.map (·.id)).Nodup) ∧
    ((dispensing none).holder = some 0 ∧ (dispensing none).payout.kind = some .dispense ∧ (dispensing none).queue = []) ∧
    (∀ st ∈ [OrderState.waitApproval, .turning], (cardOrder st).power = .running ∧
      (cardOrder st).links[(1 : Link)].backlog.length < 2 ∧ (cardOrder st).holder ≠ some 1 ∧
      (cardOrder st).card.map (·.link) = some 1 ∧ (cardOrder st).credit.session = .card ∧
      (cardOrder st).queue = [order7 .card st]) := by decide +kernel
/-- R176, R125: the card link's reset ends the session with CARD_END(LINK_RESET) in the emptied queue, or closes it behind a turn. -/
theorem test_link_reset_card :
    (after (.linkReset 1) carded).card = none ∧
    (after (.linkReset 1) carded).links[1].notices.head? = some ⟨.cardEnd 1 500 .linkReset, none⟩ ∧
    (after (.linkReset 1) (cardOrder .turning)).card.map (·.closing) = some (some .linkReset) ∧
    (after (.linkReset 1) (cardOrder .turning)).credit.session = .cardClosing := by decide +kernel
/-- R176, R183, R87: the holder's reset releases privilege, and a TEST order that does not turn is cancelled after the notice. -/
theorem test_link_reset_holder :
    let t := after (.linkReset 0) (testOrder .ready)
    t.holder = none ∧ t.queue = [] ∧
      t.links[0].notices.take 2 = [⟨.service 0 false, none⟩, ⟨.vendResult 7 120 .cancelled, none⟩] := by decide +kernel

/-- Every link has every role. -/
def allRoles (s : State) : State :=
  { s with settings := { s.settings with links := s.settings.links.map fun k => { k with roles := 63 } } }

/-- Settings for link `n` with these roles. -/
def linkArgs (n roles : Byte) : LinkArgs := { link := n, roles := roles, domains := 15, mask := 0x1FFFF, mirror := 1, enables := 3 }

theorem wit_SetLinkReplacesSettings :
    (∀ a ∈ [linkArgs 3 0, linkArgs 0 64, linkArgs 2 63, linkArgs 0 31], admitted serviced 0 (.setLink a) = true) ∧
    ¬ (linkArgs 3 0).link.toNat ≤ 2 ∧ ¬ (linkArgs 0 64).roles.toNat < 64 ∧
    ((linkArgs 2 63).link.toNat = (2 : Link).val ∧ (linkArgs 2 63).roles.toNat < 64) ∧
    hasService (serviced.settings.links.set 0 { serviced.settings.links[0] with roles := 31 }) = false := by decide +kernel

/-! ## Witnesses: credit -/

theorem wit_ReadCreditAndSelectionReport :
    (admitted plain 0 .readCredit = true ∧ plain.card.isSome = false ∧ plain.credit.session = .idle) ∧
    (admitted carded 0 .readCredit = true ∧ carded.card.isSome = true ∧ carded.credit.session = .card) ∧
    admitted plain 0 (.readSelection 79) = true ∧ 80 ≤ (80 : Byte).toNat ∧ (79 : Byte).toNat = (79 : Sel).val := by decide +kernel

/-- A return is pending for link 0. -/
def returning (n : Nat) : State := (cash n).modCredit fun c => { c with returnPending := some 0 }

/-- Force-vend is on, and selection 0 costs 1 unit. -/
def forced : State :=
  { cash 10 with
    exactChange := false,
    settings := { factorySettings with
      sales := { factorySales with forceVend := true }, sels := upd factorySettings.sels 0 fun e => { e with price := 1 } } }

theorem wit_ReturnAndItsTests :
    ((returning 1).credit.returnPending = some 0 ∧ 0 < (returning 1).credit.cash ∧ (returning 1).queue.isEmpty = true ∧
      (returning 1).coin.inFlight.isEmpty = true ∧ (returning 1).credit.payoutActive = false) ∧
    ((returning 0).credit.cash = 0 ∧ (returning 0).credit.session = .cash) ∧ (turning .run [.left] false).queue.isEmpty = false ∧
    ((cash 1).credit.returnPending = none ∧ 0 < (cash 1).credit.cash) ∧
    (admitted plain 0 .returnCredit = true ∧ plain.credit.session ≠ .cash) ∧
    (admitted (paying .planning) 0 .returnCredit = true ∧ (paying .planning).credit.payoutActive = true) ∧
    (admitted (returning 1) 0 .returnCredit = true ∧ (returning 1).credit.returnPending.isSome = true) ∧
    (admitted forced 0 .returnCredit = true ∧ forced.settings.sales.forceVend = true ∧ forced.credit.vended = false ∧
      forced.exactChange = false ∧ forced.settings.sels[(0 : Sel)].price ≤ forced.credit.cash ∧ forced.sels[(0 : Sel)].holds = 0) ∧
    (admitted (cash 1) 0 .returnCredit = true ∧ (cash 1).settings.sales.forceVend = false) := by decide +kernel

/-- A body of SET_SALES with this horizon and reject threshold. -/
def salesArgs (horizon : Word16) (threshold : Byte) : SalesArgs :=
  { creditLimit := 60000, horizon := horizon, forceVend := 1, multiVend := 0, rejectThreshold := threshold, cardIdle := 10,
    ambient := { ramp := 500, duty := 50, extra := 0 }, chilled := { ramp := 0, duty := 100, extra := 2 } }

theorem wit_SetSalesReplacesSettings :
    admitted serviced 0 (.setSales (salesArgs 500 31)) = true ∧ ¬ (salesArgs 500 32).rejectThreshold.toNat ≤ 31 ∧
    ((salesArgs 500 31).horizon.toNat = serviced.settings.sales.horizon ∧ (salesArgs 60000 1).horizon.toNat ≤ 60000 ∧
      (salesArgs 60000 1).horizon.toNat ≠ serviced.settings.sales.horizon) := by decide +kernel
/-- The settings of a new part lie in their ranges. -/
theorem factory_inRange : factorySettings.InRange := by
  refine ⟨?_, ?_, ?_, ?_, ?_, ?_, ?_, ?_, ?_, ?_⟩ <;> decide +kernel
theorem wit_EveryStepKeepsMoneyLaws : State.reset.Bounded ∧ State.reset.MoneyHolds ∧ State.reset.SettingsHold ∧
    State.reset.BooksHold ∧ State.reset.pending = [] := by
  refine ⟨⟨?_, ?_, ?_, ?_, ?_, ?_, ?_⟩, ⟨?_, ?_, ?_, ?_, ?_, ?_, ?_, ?_, ?_, ?_, ?_, ?_, ?_⟩, ⟨factory_inRange, ?_, ?_, ?_⟩,
    ⟨?_, ?_, ?_, ?_, ?_, ?_, ?_, ?_, ?_⟩, ?_⟩ <;>
  first | decide +kernel | (unfold balanced; decide +kernel) | simp [State.reset, idleCredit, initPayout, initSafety, regionInRange]

/-! ## Witnesses: coins and tubes -/

/-- The mode is SETBACK: the setpoint is raised, the timer stands and no LIGHTING claim is held. -/
def cozy (s : State) : State :=
  { s with
    cooling := { s.cooling with mode := .setback, effective := 60, setbackEnd := none },
    claims := s.claims.filter fun c => decide (c.owner ≠ .lighting) }

/-- R28: the first measurement comes at once, the next at the 1 s mark; a passage begun in its gate discards it; a passage that
holds a mark has it skipped. -/
theorem test_baseline :
    let s := after (.baselineMeasurement 10000 4000) plain
    s.coin.baseline = some { count := 10000, amp := 4000 } ∧ s.now = 2 ∧ s.coin.nextMark = 1000 ∧
    (after (.baselineMeasurement 9 4000) (after (.coinPassageStart 3000) { s with now := 1001 })).coin.baseline =
      some { count := 10000, amp := 4000 } ∧
    (after .passed { after (.coinPassageStart 3000) { s with now := 900 } with now := 1100 }).coin.nextMark = 2000 := by
  decide +kernel
/-- R29: consecutive gates take 2 ms each, and the passage keeps the lowest count and amplitude of any. -/
theorem test_passage_gates :
    let s := after (.passageGateEnd 9850 2500) (after (.coinPassageStart 3000) { plain with now := 997 })
    s.coin.passage = some { lowCount := some 9850, lowAmp := 2500, gateEnd := 1001 } ∧ s.now = 999 ∧
    (after (.passageGateEnd 9900 2600) s).coin.passage = some { lowCount := some 9850, lowAmp := 2500, gateEnd := 1003 } ∧
      (after (.passageGateEnd 9900 2600) s).now = 1001 := by decide +kernel
/-- R28, R29: the gates of a passage carry it over a 1 s mark, whose measurement is skipped. -/
theorem test_passage_spans_mark :
    let s := { after (.baselineMeasurement 10000 4000) plain with now := 998 }
    (after (.passed 4095) (after (.passageGateEnd 9 9) (after (.coinPassageStart 3000) s))).coin.nextMark = 2000 := by decide +kernel
/-- R29: a dip in the gate that the passage does not complete counts; at 2,300 of 4,000 the figure A is 106, outside the window. -/
theorem test_last_gate_dip :
    (after (.passed 2400) nearlyFull).coin.inFlight.length = 1 ∧ (after (.passed 2300) nearlyFull).coin.inFlight = [] := by
  decide +kernel
theorem wit_CoinFrontEndMeasuresAndTimes :
    (plain.power = .running ∧ plain.coin.passage = none ∧ 3072 < (3073 : BitVec 12).toNat ∧ (3071 : BitVec 12).toNat < 3072 ∧
      quiet plain = true ∧ plain.cooling.mode = .normal) ∧
    nearlyFull.coin.passage = some { lowCount := some 9850, lowAmp := 3000, gateEnd := 4 } ∧
    (plain.coin.gateSpoiled = false ∧ nearlyFull.coin.passage ≠ none) ∧
    ((cozy plain).cooling.mode = .setback ∧ quiet (cozy plain) = true ∧ (∀ c ∈ (cozy plain).claims, c.granted = true ∧ c.owner ≠ .lighting)) ∧
    (after .passed nearlyFull).coin.gateEnd = some 150 ∧
    ({ plain with coin := { initCoin with lockoutEnd := some 120000 } } : State).coin.lockoutEnd = some 120000 := by decide +kernel
theorem wit_CoinMatchesByWindows :
    plain.coin.baseline = none ∧ nearlyFull.coin.baseline = some { count := 10000, amp := 4000 } ∧
    nearlyFull.passedType { lowCount := some 9850, lowAmp := 3000, gateEnd := 4 } = some 3 ∧
    nearlyFull.passedType { lowCount := some 10000, lowAmp := 3000, gateEnd := 4 } = none := by decide +kernel

/-- The machine of 2.8 with its coin record changed. -/
def coinCase (f : CoinFront → CoinFront) : State := nearlyFull.modCoin f

theorem wit_PassedJudgesCoin :
    (nearlyFull.power = .running ∧ nearlyFull.coin.passage = some { lowCount := some 9850, lowAmp := 3000, gateEnd := 4 } ∧
      nearlyFull.coin.lockoutEnd = none ∧ nearlyFull.passedType { lowCount := some 9850, lowAmp := 2400, gateEnd := 4 } = some 3 ∧
      (2400 : BitVec 12).toNat < (3000 : BitVec 12).toNat) ∧
    (coinCase fun c => { c with lockoutEnd := some 9 }).coin.lockoutEnd.isSome = true ∧
    ((coinCase fun c => { c with baseline := none, rejectCount := 6 }).passedType { lowCount := none, lowAmp := 0, gateEnd := 2 } = none ∧
      (coinCase fun c => { c with rejectCount := 7 }).coin.rejectCount + 1 = nearlyFull.settings.sales.rejectThreshold) := by
  decide +kernel
theorem wit_OldestCoinIsConfirmedOrLost :
    (plain.power = .running ∧ plain.coin.inFlight = []) ∧
    (after .passed nearlyFull).coin.inFlight = { type := 3, value := 50, route := some 1, fill := false, deadline := 300 } :: [] ∧
    (after .passed { nearlyFull with holder := some 0, doorOpen := true }).coin.inFlight =
      { type := 3, value := 50, route := some 1, fill := true, deadline := 300 } :: [] := by decide +kernel
theorem wit_TubeSensorAndCountRequest :
    (nearlyFull.power = .running ∧ nearlyFull.tubes[(1 : TubeNo)].full ≠ true ∧ nearlyFull.tubes[(1 : TubeNo)].low ≠ false) ∧
    (admitted serviced 0 (.setTubeCount 4 100) = true ∧ 4 < (5 : Byte).toNat ∧ (4 : Byte).toNat = (4 : TubeNo).val ∧
      serviced.settings.tubes[(4 : TubeNo)].capacity < (101 : Byte).toNat ∧
      (100 : Byte).toNat ≤ serviced.settings.tubes[(4 : TubeNo)].capacity ∧ serviced.payout.state = .done) ∧
    (admitted (dispensing none) 0 (.setTubeCount 0 100) = true ∧ (dispensing none).payout.state ≠ .done) := by decide +kernel

/-- A body of SET_COIN_TYPE: type 2, of this value, for this destination. -/
def coinArgs (value : Word16) (dest : Byte) : CoinTypeArgs :=
  { type := 2, enabled := 1, value := value, fMin := 200, fMax := 300, aMin := 100, aMax := 255, dest := dest }

/-- The machine of 2.8 in service. -/
def coinService : State := { nearlyFull with holder := some 0, doorOpen := true }

theorem wit_SetCoinTypeReplacesEntry :
    admitted coinService 0 (.setCoinType (coinArgs 50 1)) = true ∧ ¬ (coinArgs 10001 1).value.toNat ≤ 10000 ∧
    (coinArgs 10000 0xFF).value.toNat ≤ 10000 ∧ (coinArgs 50 1).type.toNat = (2 : CoinTypeNo).val ∧
    coinService.settings.tubes[(1 : TubeNo)].value ≠ (coinArgs 49 1).value.toNat ∧
    (coinService.settings.coins[(3 : CoinTypeNo)].enabled = true ∧ 200 ≤ coinService.settings.coins[(3 : CoinTypeNo)].fMax ∧
      coinService.settings.coins[(3 : CoinTypeNo)].fMin ≤ 300 ∧ 100 ≤ coinService.settings.coins[(3 : CoinTypeNo)].aMax) ∧
    serviced.settings.coins.toList.all (fun k => !k.enabled) = true := by decide +kernel

/-- A body of SET_TUBE for tube 1. -/
def tubeArgs (value : Word16) (full : Byte) : TubeArgs :=
  { tube := 1, enabled := 1, value := value, capacity := 60, fullMark := full, lowMark := 5, floor := 60 }

theorem wit_SetTubeReplacesSettings :
    admitted coinService 0 (.setTube (tubeArgs 50 60)) = true ∧ ¬ (tubeArgs 50 61).fullMark.toNat ≤ 60 ∧
    (tubeArgs 50 60).fullMark.toNat ≤ 60 ∧ (tubeArgs 50 60).tube.toNat = (1 : TubeNo).val ∧
    (coinService.settings.coins[(3 : CoinTypeNo)].dest = some 1 ∧ coinService.settings.coins[(3 : CoinTypeNo)].value ≠ 49) ∧
    ((dispensing none).settings.tubes[(1 : TubeNo)].value = 50 ∧ (dispensing none).tubes[(1 : TubeNo)].count = 4 ∧
      admitted (dispensing none) 0 (.setTube (tubeArgs 49 60)) = true ∧ (dispensing none).payout.state ≠ .done) ∧
    coinService.payout.state = .done := by decide +kernel

/-! ## Witnesses: plans and payouts -/

theorem wit_PlannerTakesGreatestPlan :
    (∀ i : TubeNo, twoPasses.settings.tubes[i].enabled = true → 0 < twoPasses.settings.tubes[i].value) ∧
    ((twoPasses.planFor 150).pass = .one ∧ (twoPasses.planFor 160).pass = .two ∧ (merged.planFor 105).pass = .under) ∧
    (twoPasses.planFor 150).counts = [(100, 1), (50, 1), (20, 0), (10, 0)] := by decide +kernel
/-- An exact plan of 150 by pass 1, and of 160 by pass 2, as the statements have it. -/
theorem wit_PlannerTakesGreatestPlan_exact : ExactPlan (twoPasses.denominations .one) [1, 1, 0, 0] 150 ∧
    ExactPlan (twoPasses.denominations .two) [1, 0, 3, 0] 160 := by
  refine ⟨⟨?_, ?_, ?_⟩, ⟨?_, ?_, ?_⟩⟩ <;> decide +kernel
theorem wit_FullestTubeGivesCoin : merged.chooseTube 50 .one = some 1 ∧ merged.chooseTube 50 .two = some 1 ∧
    merged.chooseTube 10 .one = none ∧ ({ merged with tubes := #v[tubeAt 1, tubeAt 2, tubeAt 0, tubeAt 0, tubeAt 0] } : State).chooseTube 50 .one =
      some 0 := by decide +kernel
theorem wit_ExactChangeFlagEvaluated :
    (∀ i : TubeNo, plain.settings.tubes[i].enabled = false) ∧
    (∀ i : TubeNo, merged.settings.tubes[i].enabled = true → 0 < merged.settings.tubes[i].value) ∧
    (∃ i : TubeNo, merged.settings.tubes[i].enabled = true ∧ merged.settings.tubes[i].value = 20) ∧
    (∀ i : TubeNo, merged.settings.tubes[i].enabled = true → 20 ≤ merged.settings.tubes[i].value) := by decide +kernel
/-- 20 · 1 to 20 · 5 have plans over one tube of 20 with five coins; 20 · 6 has none. -/
theorem test_exact_change_amount :
    let s (n : Nat) : State := { plain with
      settings := { factorySettings with tubes := #v[factoryTube, tubeOf 20 0, factoryTube, factoryTube, factoryTube] },
      tubes := #v[tubeAt 0, tubeAt n, tubeAt 0, tubeAt 0, tubeAt 0] }
    (s 25).evalExact.exactChange = false ∧ (s 5).evalExact.exactChange = true := by decide +kernel
theorem wit_CoinAttemptsBeginAndPulsesEnd :
    ((paying .ejecting).payout.kind = some .session ∧ (paying .ejecting).chooseTube 100 .two = some 0 ∧
      (paying .ejecting).payout.remaining = [] ++ (100, 1) :: [(50, 0), (20, 3), (10, 0)]) ∧
    ((attempt 1 (some 30)).payout.remaining = [(100, 0), (50, 0)] ++ (20, 3) :: [(10, 0)] ∧
      (attempt 1 (some 30)).chooseTube 20 .two = some 2) ∧
    ({ paying .ejecting with tubes := plain.tubes } : State).chooseTube 100 .two = none ∧
    ((dispensing none).payout.kind = some .dispense ∧ (dispensing none).payout.tube = some 0) ∧
    ((attempt 1 none).power = .running ∧ (attempt 1 none).payout.current.isSome = true) ∧
    ((paying .ejecting).modPayout fun p => { p with nextAt := some 500 }).payout.nextAt = some 500 := by decide +kernel

/-- A first plan, or with the claim already granted a re-plan. -/
def planned (again : Bool) (f : Payout → Payout) : State :=
  { (paying .planning).modPayout f with
    claims := if again then [granted .lighting 4, granted .payout 3] else [granted .lighting 4] }

theorem wit_PlanningEndMovesOn :
    (∀ again : Bool, (planned again id).power = .running ∧ (planned again id).payout.state = .planning ∧
      (planned again id).payout.answer.isSome = true ∧ (planned again id).payout.kind = some .session ∧
      (planned again id).queue = [] ∧ (planned again id).isGranted .payout = again ∧
      (planned again id).payout.restartPending = false ∧ (planned again id).doorOpen = false) ∧
    (planned false fun p => { p with restartPending := true }).payout.restartPending = true ∧
    (planned true fun p => { p with holdPending := true }).payout.holdPending = true ∧
    (planned true fun p => { p with answer := some { counts := [(100, 0)], pass := .under, owed := 160 } }).payout.answer =
      some { counts := [(100, 0)], pass := .under, owed := 160 } ∧
    (∀ c ∈ (planned false id).claims, c.granted = true ∧ c.owner ≠ .payout) := by decide +kernel
/-- A first plan within the budget claims, is granted and pulses tube 0. -/
theorem test_planning_end : (after .planningEnd (paying .planning)).ejectPin 0 = true ∧
    (after .planningEnd (paying .planning)).isGranted .payout = true := by decide +kernel
theorem wit_ExitPulseCountsCoin :
    ((attempt 1 none).payout.current.map (·.seenAt) = some none ∧ (attempt 1 none).payout.kind = some .session ∧
      ((attempt 1 none).payout.remaining.map (·.1)).Nodup) ∧
    ((dispensing none).payout.current.map (·.seenAt) = some none ∧ (dispensing none).payout.kind = some .dispense) ∧
    60000 < (((dispensing none).modPayout fun p => { p with paid := 59901 }).payout.paid + 100) ∧
    ((attempt 1 (some 30)).payout.current.map (·.seenAt) = some (some 30) ∧ (attempt 1 (some 30)).payout.last.isSome = true) ∧
    (((paying .ejecting).modPayout fun p => { p with last := some { tube := 0, kind := .session, origin := 0 } }).payout.current = none) ∧
    (plain.payout.current = none ∧ plain.payout.last = none) := by decide +kernel

/-- What a payout's windows look to, all clear. -/
def calm (s : State) : Bool := !s.payout.restartPending && !s.payout.holdPending && !s.payout.releasePending

theorem wit_ExitWindowCloseGoesOn :
    (∀ s ∈ [attempt 1 none, attempt 2 none, attempt 1 (some 30), dispensing (some 30)],
      s.power = .running ∧ s.payout.current.isSome = true ∧ s.queue = [] ∧ calm s = true) ∧
    (dispensing none).payout.kind = some .dispense ∧
    (((attempt 1 none).modPayout fun p => { p with restartPending := true }).payout.restartPending = true ∧
      ((attempt 1 none).modPayout fun p => { p with holdPending := true }).payout.restartPending = false ∧
      ((dispensing none).modPayout fun p => { p with releasePending := true }).payout.holdPending = false ∧
      ((dispensing (some 30)).modPayout fun p => { p with releasePending := true }).payout.coins ≠ 0 ∧
      (dispensing none).links[(0 : Link)].notices.length < 16) ∧
    ((attempt 1 (some 30)).modPayout fun p => { p with restartPending := true }).payout.restartPending = true ∧
    (∀ d ∈ ((attempt 1 (some 30)).modPayout fun p => { p with remaining := [(100, 0)] }).payout.remaining, d.2 = 0) ∧
    ((attempt 1 (some 30)).modPayout fun p => { p with holdPending := true }).payout.holdPending = true ∧
    ((attempt 1 (some 30)).payout.state = .ejecting ∧ (attempt 1 (some 90)).payout.state = .ejecting ∧ 30 + 120 ≤ 190 ∧
      ¬ 90 + 120 ≤ 190) := by decide +kernel
/-- R66, R69, R70: at an empty first window a waiting restart, door or release stands in place of the second pulse. -/
theorem test_empty_first :
    (after .exitWindowClose ((attempt 1 none).modPayout fun p => { p with holdPending := true })).payout.state = .hold ∧
    (after .exitWindowClose ((dispensing none).modPayout fun p => { p with releasePending := true })).payout.state = .done ∧
    (after .exitWindowClose (attempt 1 none)).payout.current.map (·.pulse) = some 2 := by decide +kernel
theorem wit_TubeDispenseStarts :
    admitted serviced 0 (.tubeDispense 4 200) = true ∧ 4 < (5 : Byte).toNat ∧ 200 < (201 : Byte).toNat ∧
    (serviced.credit.session = .idle ∧ serviced.payout.state = .done ∧ serviced.queue = [] ∧
      ∀ c ∈ serviced.claims, c.granted = true ∧ c.owner ≠ .payout) ∧
    (admitted (dispensing none) 0 (.tubeDispense 0 1) = true ∧ (dispensing none).payout.state ≠ .done ∧
      (dispensing none).credit.session = .idle) ∧
    ({ cash 1 with holder := some 0, doorOpen := true } : State).credit.session ≠ .idle := by decide +kernel

/-! ## Witnesses: orders -/

/-- B3 costs 120; its stock and holds are these. -/
def stocked (s : State) (stock : Option Nat) (holds : HoldSet) : State :=
  { s with
    settings := { s.settings with sels := upd s.settings.sels 13 fun e => { e with price := 120 } },
    sels := upd s.sels 13 fun e => { e with stock := stock, holds := holds } }

/-- Link 0 may not sell domain 0. -/
def undomained (s : State) : State :=
  { s with settings := { s.settings with links := upd s.settings.links 0 fun k => { k with domains := 0b1110, roles := 63 } } }

theorem wit_OrderChecksAndFunds :
    (turning .run [] false).queue.length ≤ 4 ∧
    (admitted (paying .planning) 0 (.order 13) = true ∧ (paying .planning).credit.payoutActive = true) ∧
    (admitted serviced 0 (.order 13) = true ∧ serviced.doorOpen = true) ∧ 80 ≤ (80 : Byte).toNat ∧
    (undomained plain).settings.links[(0 : Link)].domains.getLsbD 0 = false ∧
    (stocked (cash 200) none 1).sels[(13 : Sel)].holds ≠ 0 ∧
    ¬ ((stocked (turning .run [] false) (some 1) 0).queue.filter fun o => decide (o.sel = 13)).length < 1 ∧
    4 ≤ ({ cash 200 with queue := List.replicate 4 (order7 .cash .ready) } : State).queue.length ∧
    (admitted (stocked (cash 120) (some 1) 0) 0 (.order 13) = true ∧ 120 ≤ (cash 120).credit.cash - (cash 120).credit.reserved) ∧
    (cash 119).credit.cash - (cash 119).credit.reserved < 120 ∧
    (plain.credit.session = .idle ∧ (stocked plain none 0).settings.sels[(13 : Sel)].price = 120) ∧
    (admitted (stocked carded none 0) 0 (.order 13) = true ∧ carded.card.map (·.funds) = some 500) := by decide +kernel
/-- An order alone claims and turns at once; the response gives its first state. -/
theorem test_order_turns :
    let t := after (.order 0 13) (stocked (cash 200) none 0)
    t.queue.map (·.state) = [.turning] ∧ t.links[0].backlog = [⟨0x90, [0x01, 1, 1]⟩] ∧ t.rowPin 1 = true := by decide +kernel
theorem wit_RemoteAndTestOrdersArePlaced :
    admitted plain 2 (.remoteOrder 79) = true ∧ ({ plain with doorOpen := true } : State).doorOpen = true ∧
    (stocked plain (some 0) 0).sels[(13 : Sel)].stock = some 0 ∧ (cash 1).credit.session ≠ .idle ∧
    (plain.queue = [] ∧ plain.sels[(79 : Sel)].holds = 0 ∧ plain.settings.links[(2 : Link)].domains.getLsbD 0 = true) ∧
    (admitted serviced 0 (.testTurn 79) = true ∧ serviced.payout.state = .done ∧
      serviced.sels[(79 : Sel)].holds.getLsbD 4 = false ∧ (stocked serviced none 16).sels[(13 : Sel)].holds.getLsbD 4 = true ∧
      (dispensing none).payout.state ≠ .done) := by decide +kernel

/-- Order 7 is the head in this state, with these holds on B3. -/
def heading (st : OrderState) (holds : HoldSet) : State :=
  { stocked (cash 200) none holds with
    credit := { idleCredit with session := .cash, cash := 200, reserved := 120 }, queue := [order7 .cash st], lastId := 7,
    claims := if st = .waitGrant then [granted .lighting 4, granted .vend 6] else [granted .lighting 4] }

theorem wit_HeadClaimsAndTurns :
    ((heading .turning 0).queue = [order7 .cash .turning] ∧ (order7 .cash .turning).state ≠ .ready) ∧
    ((heading .ready 0).queue = [order7 .cash .ready] ∧ (heading .ready 0).drive.phase = .idle ∧
      ∀ c ∈ (heading .ready 0).claims, c.granted = true ∧ c.owner ≠ .vend) ∧
    ((heading .waitGrant 0).sels[(13 : Sel)].holds = 0 ∧ (heading .waitGrant 0).drive.brake = none) ∧
    ((heading .waitGrant 8).sels[(13 : Sel)].holds ≠ 0 ∧ (heading .waitGrant 8).isGranted .vend = true ∧
      (heading .waitGrant 8).card = none ∧ (heading .waitGrant 8).payout.state = .done ∧
      (heading .waitGrant 8).links[(0 : Link)].notices.length < 16) := by decide +kernel
theorem wit_OrderEndDoesItsBooks :
    order7 .cash .turning ∈ (turning .brake [] true).queue ∧ ((turning .brake [] true).queue.map (·.id)).Nodup := by decide +kernel
theorem wit_CancelOrderCancels :
    (admitted (heading .waitGrant 0) 0 (.cancelOrder 7) = true ∧ ((heading .waitGrant 0).queue.map (·.id)).Nodup ∧
      (heading .waitGrant 0).queue = [order7 .cash .waitGrant] ∧ (heading .waitGrant 0).payout.state = .done) ∧
    (7 : Byte).toNat = (order7 .cash .waitGrant).id ∧ (order7 .cash .waitGrant).origin = 0 ∧
    (admitted (heading .turning 0) 0 (.cancelOrder 7) = true ∧ (order7 .cash .turning).state = .turning) ∧
    (∀ o ∈ plain.queue, o.id = (1 : Byte).toNat → o.origin ≠ 0) ∧
    (admitted (allRoles (cardOrder .waitApproval)) 0 (.cancelOrder 7) = true ∧
      (cardOrder .waitApproval).queue = [order7 .card .waitApproval] ∧ (order7 .card .waitApproval).cardLink = some 1 ∧
      (cardOrder .waitApproval).card.map (·.closing) = some none ∧
      (cardOrder .waitApproval).links[(1 : Link)].notices.length < 16 ∧
      (cardOrder .waitApproval).payout.state = .done) := by decide +kernel
/-- R86, R10, R121: a CARD order cancelled behind another releases its price and goes; the idle timer waits for the last. -/
theorem test_cancel_card :
    let one := after (.cancelOrder 0 7) (allRoles (cardOrder .waitApproval))
    let two := after (.cancelOrder 0 7) (allRoles { cardOrder .waitApproval with
      queue := [{ order7 .card .turning with id := 6 }, order7 .card .waitApproval] })
    one.card = some { link := 1, funds := 500, reserved := 0, idleEnd := some 60000, closing := none } ∧
      two.card = some { link := 1, funds := 500, reserved := 0, idleEnd := none, closing := none } ∧
      two.queue.map (·.id) = [6] ∧ one.links[1].notices = [⟨.vendResult 7 120 .cancelled, none⟩] := by decide +kernel

/-- B3 is protected. -/
def guarded (s : State) : State := s.modSelSettings 13 fun e => { e with protect := true }

theorem wit_PriceProtectAndHoldRequests :
    (admitted plain 0 (.setPrice 79 60000) = true ∧ 60000 < (60001 : Word16).toNat ∧ 80 ≤ (80 : Byte).toNat) ∧
    ((guarded plain).settings.sels[(13 : Sel)].protect = true ∧ (guarded plain).holder ≠ some 0 ∧ (guarded serviced).holder = some 0) ∧
    (admitted serviced 0 (.protect 79 1) = true ∧ 1 < (2 : Byte).toNat) ∧
    (admitted serviced 0 (.clearHold 13 4) = true ∧ 5 ≤ (5 : Byte).toNat ∧ serviced.allFitted (serviced.spiralsOf 13) = true ∧
      ({ serviced with fitted := serviced.fitted.set 13 false } : State).allFitted (serviced.spiralsOf 13) = false) := by
  decide +kernel

/-- A body of SET_SELECTION for A9. -/
def selArgs (column pair stock available : Byte) : SelectionArgs :=
  { sel := 9, price := 60000, column := column, pair := pair, domain := 3, perishable := 0, stock := stock, available := available }

theorem wit_SetSelectionReplacesEntry :
    admitted serviced 0 (.setSelection (selArgs 8 1 63 1)) = true ∧ ¬ (selArgs 9 1 0 1).column.toNat ≤ 8 ∧
    ¬ (selArgs 9 0 64 1).stock.toNat ≤ 63 ∧ (selArgs 8 1 0xFF 0).column.toNat = (8 : Fin 10).val ∧
    (serviced.allFitted { first := 8, pair := true } = true ∧ serviced.queue = [] ∧ serviced.payout.isEmpty = false) ∧
    ({ serviced with fitted := serviced.fitted.set 9 false } : State).allFitted { first := 8, pair := true } = false ∧
    ((serviced.modSelSettings 9 fun e => { e with protect := true }).settings.sels[(9 : Sel)].protect = true ∧
      serviced.spiralsOf 9 ≠ { first := 8, pair := true }) ∧
    (({ serviced with safety := { initSafety with state := .held, cause := some .temp } } : State).safety.state = .held ∧
      serviced.settings.sels[(9 : Sel)].perishable ≠ decide ((1 : Byte) = 1)) := by decide +kernel

/-! ## Witnesses: spiral drive -/

theorem wit_TurnRunsByCamsAndLimits :
    (∀ s ∈ [turning .start [.away] false, turning .run [.left] true],
      s.power = .running ∧ s.drive.service.isSome = true ∧ s.drive.cams.length = 1 ∧ s.drive.openChecked = false) ∧
    ((turning .start [.away] false).drive.phase = .start ∧ .away ∈ (turning .start [.away] false).drive.cams) ∧
    ((turning .run [.left] true).drive.phase = .run ∧ (turning .run [.left] true).drive.phase ≠ .start) ∧
    (100 * 1 ≤ 100 ∧ ¬ 100 * 1 ≤ 99 ∧ 1500 * 1 < 1501 ∧ 1500 ≤ 1500 * 1) := by decide +kernel
/-- The open check's boundary: 0.10 A goes on, 0.099 A fails NO_MOTOR. -/
theorem test_open_check :
    (after (.openCheck 100) (turning .start [.away] false)).drive.phase = .start ∧
    (after (.openCheck 99) (turning .start [.away] false)).fitted[13] = false ∧
    (after (.openCheck 99) (turning .start [.away] false)).sels[13].holds = 0b10000 := by decide +kernel
theorem wit_OutcomeIsReported :
    (turning .window [] false).drive.service = some (service7 false) ∧ (turning .window [] false).queue = [order7 .cash .turning] ∧
    (order7 .cash .turning).id = (service7 false).order ∧ (turning .window [] false).payout.state = .done ∧
    ((turning .window [] false).card = none ∧ (turning .window [] false).links[(0 : Link)].notices.length < 16) ∧
    ([order7 .cash .turning, { order7 .cash .ready with id := 8 }].map Order.id).Nodup := by decide +kernel
/-- R90, R116, R121: a CARD order that succeeds is charged to the open card record, whose idle timer starts again. -/
theorem test_report_card :
    let s : State := { cardOrder .turning with drive := (turning .window [] true).drive }
    (s.driveReport .done .done).card = some { link := 1, funds := 380, reserved := 0, idleEnd := some 60000, closing := none } := by
  decide +kernel

/-- A brake that SOFT_RESTART left, in this phase. -/
def restarted (p : DrivePhase) (sv : Option Service) : State :=
  { turning .brake [] false with
    drive := { (turning .brake [] false).drive with
      phase := p, service := sv, brake := some { spirals := { first := 13, pair := false }, till := 100, owned := false } } }

theorem wit_BrakeAndWindowEnd :
    ((turning .brake [] true).drive.phase = .brake ∧ (turning .brake [] true).drive.service = some (service7 true) ∧
      (turning .brake [] false).drive.brake.map (·.owned) = some true) ∧
    ((restarted .brake (some (service7 false))).drive.phase = .brake ∧ (restarted .brake none).drive.service = none ∧
      (restarted .probing none).drive.phase = .probing) ∧
    ((turning .window [] false).drive.windowEnd = some 1600 ∧ order7 .cash .turning ∈ (turning .window [] false).queue ∧
      ((turning .window [] false).queue.map (·.id)).Nodup ∧ (order7 .cash .turning).turns ≤ (service7 false).profile.extra ∧
      ¬ 2 ≤ (service7 false).profile.extra) := by decide +kernel

/-- A late-drop record is open. -/
def late : State := { plain with lateDrop := some { id := 30, price := 120, funding := .cash, origin := 0, expiry := 19070 } }

theorem wit_DropsAreAssigned :
    ({ plain with blind := true } : State).blind = true ∧ (plain.blind = false ∧ plain.drive.service = none ∧ plain.lateDrop = none) ∧
    ((turning .run [.left] false).blind = false ∧ (turning .run [.left] false).drive.service = some (service7 false)) ∧
    ((restarted .brake (some (service7 false))).drive.brake.map (·.owned) = some false) ∧
    (late.drive.service = none ∧ late.lateDrop.isSome = true) ∧ (turning .window [] false).drive.phase = .window := by decide +kernel
/-- 5.9, 12,405 ms: the late drop is counted and the record closes. -/
theorem test_late_drop : (after (.drop false) late).lifetime[Counter.code .lateDrops] = 120 ∧
    (after (.drop false) late).lateDrop = none := by decide +kernel

/-- The probe at this position. -/
def probing (q : Pos) : State :=
  { plain with
    claims := [granted .lighting 4, granted .probe 6],
    drive := { initDrive with
      phase := .probing, probePos := some q, probeResult := some (Vector.replicate 80 false), stepEnd := some 50 } }

theorem wit_ProbeStepsAndEnds :
    (∀ q ∈ ([78, 79] : List Pos), (probing q).power = .running ∧ (probing q).queue = [] ∧ (probing q).payout.isEmpty = false ∧
      (probing q).drive.phase = .probing ∧ (probing q).drive.probePos = some q ∧ (probing q).drive.stepEnd = some 50) ∧
    (79 : Pos).val = (78 : Pos).val + 1 ∧
    ((∀ c ∈ (probing 79).claims, c.owner ≠ .vend) ∧
      ({ probing 79 with queue := [order7 .cash .ready] } : State).queue = [order7 .cash .ready]) ∧
    (admitted ({ probing 0 with holder := some 0, doorOpen := true } : State) 0 .probeMotors = true) ∧
    (admitted ({ heading .ready 0 with holder := some 0, doorOpen := true } : State) 0 .probeMotors = true ∧ (heading .ready 0).queue ≠ []) ∧
    (admitted serviced 0 .probeMotors = true ∧ ∀ c ∈ serviced.claims, c.granted = true ∧ c.owner ≠ .probe) := by decide +kernel

/-! ## Witnesses: card sessions -/

/-- CARD_CLOSING, with the last CARD order TURNING and its drop seen. -/
def ending (p : DrivePhase) : State :=
  { cardOrder .turning with
    credit := { idleCredit with session := .cardClosing },
    card := some { link := 1, funds := 500, reserved := 120, idleEnd := none, closing := some .closed },
    claims := [granted .lighting 4, granted .vend 6], drive := (turning p [] true).drive }

theorem wit_CardSessionsOpenAndClose :
    (admitted plain 1 (.cardOpen 60000) = true ∧ plain.credit.session = .idle ∧ 60000 < (60001 : Word16).toNat) ∧
    (admitted (cash 1) 1 (.cardOpen 1) = true ∧ (cash 1).credit.session ≠ .idle) ∧
    (admitted plain 1 .cardClose = true ∧ plain.credit.session ≠ .card) ∧
    (admitted (allRoles carded) 0 .cardClose = true ∧ (allRoles carded).card.map (·.link) ≠ some 0) ∧
    (admitted carded 1 .cardClose = true ∧ quiet carded = true ∧ carded.queue = [] ∧ carded.card.map (·.idleEnd) = some (some 60000)) ∧
    (admitted (cardOrder .turning) 1 .cardClose = true ∧ quiet (cardOrder .turning) = true ∧
      (cardOrder .turning).queue = [order7 .card .turning]) ∧
    (quiet ({ carded with queue := [order7 .card .turning] } : State) = true ∧ carded.power = .running) ∧
    (∀ st ∈ [OrderState.waitApproval, .ready, .waitGrant], (cardOrder st).credit.session = .card ∧
      ((cardOrder st).queue.map (·.id)).Nodup ∧ (cardOrder st).card.map (·.link) = some 1 ∧ admitted (cardOrder st) 1 .cardClose = true) ∧
    ((ending .run).credit.session = .cardClosing ∧ (ending .run).card.map (·.closing) = some (some .closed) ∧
      (ending .run).queue = [order7 .card .turning] ∧ (ending .run).drive.service = some (service7 true) ∧
      (ending .run).payout.state = .done ∧ (ending .run).links[(1 : Link)].notices.length ≤ 12) := by decide +kernel
/-- R123: the orders still waiting are cancelled, and the session ends; one that waits for its grant keeps it closing. -/
theorem test_card_close_waiting :
    (after (.cardClose 1) (cardOrder .waitApproval)).queue = [] ∧ (after (.cardClose 1) (cardOrder .waitApproval)).card = none ∧
    (after (.cardClose 1) (cardOrder .waitGrant)).credit.session = .cardClosing ∧
    (after .brakeEnd (ending .brake)).credit.session = .idle := by decide +kernel
/-- 6.9, 24.0 s: with the order TURNING the session is CARD_CLOSING and the record stays. -/
theorem test_card_closing : (after (.cardClose 1) (cardOrder .turning)).credit.session = .cardClosing ∧
    (after (.cardClose 1) (cardOrder .turning)).card.map (·.funds) = some 500 := by decide +kernel
theorem wit_CardOrdersAreAnswered :
    (admitted (cardOrder .waitApproval) 1 (.cardApprove 7 1) = true ∧ (7 : Byte).toNat = (order7 .card .waitApproval).id ∧
      (order7 .card .waitApproval).cardLink = some 1 ∧ (order7 .card .waitApproval).state = .waitApproval ∧
      ((cardOrder .waitApproval).queue.map (·.id)).Nodup) ∧
    (1 < (2 : Byte).toNat ∧ (order7 .card .ready).state ≠ .waitApproval) ∧
    ((∀ o ∈ carded.queue, o.id ≠ 40) ∧ ({ carded with lapsed := [{ id := 40, link := 1 }] } : State).lapsed = [{ id := 40, link := 1 }] ∧
      carded.lapsed = []) ∧
    ((cardOrder .waitApproval).queue = [order7 .card .waitApproval] ∧ (cardOrder .waitApproval).credit.session = .card ∧
      (cardOrder .waitApproval).payout.state = .done ∧ admitted (cardOrder .waitApproval) 1 (.cardApprove 7 0) = true ∧
      (order7 .card .waitApproval).deadline = some 10000) ∧
    (order7 .card .waitApproval ∈ ({ cardOrder .waitApproval with queue :=
        [{ order7 .card .ready with id := 6 }, order7 .card .waitApproval] } : State).queue ∧
      ((cardOrder .waitApproval).card.map (·.closing)) = some none) := by decide +kernel
/-- 6.9, 14.0 s: the deadline releases the reservation, starts the idle timer and lapses the id. -/
theorem test_approval_deadline :
    let t := after (.approvalDeadline 7) (cardOrder .waitApproval)
    t.queue = [] ∧ t.card.map (·.reserved) = some 0 ∧ t.card.map (·.idleEnd) = some (some 70000) ∧
      t.lapsed = [{ id := 7, link := 1 }] := by decide +kernel

/-! ## Witnesses: cooling and safety -/

/-- A defrost runs, with the evaporator at this temperature. -/
def defrosting (t : Int) : State :=
  (cooled .defrost 60).modCooling fun c => { c with
    defrostKind := some .heater, defrostStart := some 200000, heat := true,
    evap := { fault := false, count := 0, filtered := some t, raw := some 2100 } }

theorem wit_SensorsAreSampledAndFiltered :
    (64 ≤ (64 : BitVec 12).toNat ∧ (4031 : BitVec 12).toNat ≤ 4031) ∧ (60 : Int) ≠ 75 ∧
    (plain.power = .running ∧ quiet plain = true ∧ (∀ c ∈ plain.claims, c.granted = true) ∧ plain.cooling.state ≠ .defrost) ∧
    (quiet (defrosting 100) = true ∧ (defrosting 100).cooling.state = .defrost ∧
      ((defrosting 100).cooling.evap.judge 2100).filtered = some 109 ∧ (defrosting 100).settings.cooling.terminate ≤ 109) := by
  decide +kernel
/-- R141: the evaporator at 8.0 °C or above ends the defrost by TEMP. -/
theorem test_defrost_temp : (after (.evapSample 2100) (defrosting 100)).cooling.state = .drain ∧
    (after (.evapSample 2100) (defrosting 100)).heatPin = false := by decide +kernel

/-- The zone sensor after this many bad or good readings in a row. -/
def counted (s : State) (fault : Bool) (n : Nat) : State :=
  s.modCooling fun c => { c with zone := { c.zone with fault := fault, count := n }, lastStop := some 250000 }

/-- FALLBACK in this phase, in a zone fault. -/
def fallen (p : FbPhase) : State :=
  let s := counted (cooled .idle 60) true 9
  { s with
    cooling := { s.cooling with
      state := .fallback, fallback := some p, fbStart := if p = .fbOn then some 200000 else none,
      runStart := if p = .fbOn then some 200000 else none },
    claims := match p with
      | .fbOff => [granted .lighting 4]
      | .fbWait => [granted .lighting 4, { granted .compressor 45 with granted := false }]
      | .fbOn => [granted .lighting 4, granted .compressor 18] }

/-- The safety monitor is in this state, by the temperature. -/
def watched (st : SafetyState) (s : State) : State :=
  { s with safety := { state := st, excursion := 0, cause := if st = .held then some .temp else none, peak := some 71, check := false } }

/-- WAIT_GRANT with its waiting claim. -/
def waiting (t : Int) : State :=
  { cooled .waitGrant t with claims := [granted .lighting 4, { granted .compressor 45 with granted := false }] }

theorem wit_ZoneSampleActsOnCompressor :
    (∀ s ∈ [cooled .idle 60, cooled .idle 30, waiting 60, waiting 30, cooled .running 60, cooled .running 30, cooled .minOff 60],
      s.power = .running ∧ quiet s = true ∧ s.cooling.mode = .normal ∧ s.safety.state = .clear ∧ s.cooling.requested = false ∧
        (s.advance 301000).cooling.accumulated < 25200000 ∧ s.cooling.zone.fault = false ∧ s.safety.check = false) ∧
    (((cooled .idle 60).cooling.zone.judge 2300).filtered = some 67 ∧ ((cooled .idle 30).cooling.zone.judge 2700).filtered = some 22) ∧
    ((cooled .idle 60).cooling.lastStop = none ∧ ∀ c ∈ (cooled .idle 60).claims, c.granted = true ∧ c.owner ≠ .compressor) ∧
    (∀ c ∈ (waiting 30).claims.filter (fun c => decide (c.owner ≠ .compressor)), c.granted = true) ∧
    ((cooled .running 30).cooling.runStart = some 200000 ∧
      21600000 ≤ (((cooled .running 30).modCooling fun c => { c with accumulated := 21600000 }).advance 301000).cooling.accumulated) ∧
    (∀ s ∈ [counted (cooled .idle 60) false 2, counted (waiting 60) false 2, counted (cooled .running 60) false 2,
        counted (cooled .drain 60) false 2], s.cooling.zone.fault = false ∧ (s.cooling.zone.judge 63).fault = true) ∧
    (∀ p ∈ [FbPhase.fbOff, .fbWait, .fbOn], (fallen p).cooling.zone.fault = true ∧ ((fallen p).cooling.zone.judge 2517).fault = false ∧
      ((fallen p).cooling.zone.judge 2517).filtered = some 40 ∧ (fallen p).cooling.state = .fallback ∧
      (watched .timing (fallen p)).safety.state = .timing ∧ (watched .held (fallen p)).safety.state = .held) ∧
    ((watched .timing (cooled .idle 60)).safety.excursion + 1 < (cooled .idle 60).settings.cooling.safetyDelay * 60 ∧
      (cozy (cooled .idle 60)).cooling.mode = .setback ∧ ((cooled .idle 60).cooling.zone.judge 2300).fault = false) ∧
    (((cooled .running 60).modCooling fun c => { c with requested := true }).cooling.requested = true ∧
      (cooled .running 60).cooling.zone.fault = ((cooled .running 60).cooling.zone.judge 2300).fault ∧
      ((cooled .running 60).modCooling fun c => { c with runStart := some 250000 }).cooling.runStart = some 250000) := by
  decide +kernel
/-- R139: a defrost that waits for 60 s of the run begins at the first sample at which they have passed, and not before. -/
theorem test_waiting_defrost :
    let s (run : Nat) := (cooled .running 60).modCooling fun c => { c with requested := true, runStart := some run }
    (after (.zoneSample 2300) (s 241001)).cooling.state = .running ∧ (after (.zoneSample 2300) (s 241000)).cooling.state = .defrost := by
  decide +kernel
/-- R136: at the cut-in with 180 s passed the relay closes, the claim granted behind the lighting's. -/
theorem test_zone_starts : (after (.zoneSample 2300) (cooled .idle 60)).compPin = true ∧
    (after (.zoneSample 2700) (cooled .running 30)).compPin = false := by decide +kernel
theorem wit_CoolingTimersRun :
    (∀ s ∈ [plain, counted plain true 0, (cooled .running 60).modCooling fun c => { c with resized := false },
        counted (cooled .minOff 60) false 0, fallen .fbOff, fallen .fbOn, cooled .running 60],
      s.power = .running ∧ quiet s = true ∧ (∀ c ∈ s.claims, c.granted = true) ∧ (s.claims.map (·.owner)).Nodup) ∧
    (plain.cooling.state = .startDelay ∧ (counted plain true 0).cooling.zone.fault = true) ∧
    (counted (cooled .minOff 60) false 0).cooling.lastStop = some 250000 ∧
    ((cooled .running 60).cooling.pullDown = false ∧ (cooled .running 60).cooling.runStart = some 200000) ∧
    (∀ c ∈ (fallen .fbOff).claims, c.owner ≠ .compressor) ∧
    ((fallen .fbOn).cooling.fbStart = some 200000 ∧
      ((fallen .fbOn).modCooling fun c => { c with requested := true }).cooling.requested = true) ∧
    (plain.cooling.setbackEnd.isSome = true ∧ plain.safety.state = .clear ∧
      ({ plain with safety := { initSafety with state := .timing } } : State).safety.state ≠ .clear) := by decide +kernel
/-- R140: a second FORCE_DEFROST changes nothing, though 60 s of the run have passed. -/
theorem test_second_force :
    let s := { (cooled .running 60).modCooling fun c => { c with requested := true } with holder := some 0, doorOpen := true }
    after (.forceDefrost 0) s = s.modPort 0 fun p => { p with backlog := [⟨0xD9, [0x00]⟩] } := by decide +kernel
theorem wit_DefrostBeginsAndEnds :
    ((cooled .idle 60).cooling.requested = false ∧
      ((cooled .running 60).modCooling fun c => { c with requested := true }).cooling.requested = true) ∧
    (∀ s ∈ [{ cooled .idle 60 with holder := some 0, doorOpen := true }, { cooled .running 60 with holder := some 0, doorOpen := true },
        { cooled .drain 60 with holder := some 0, doorOpen := true }],
      admitted s 0 .forceDefrost = true ∧ quiet s = true ∧ s.settings.cooling.enable = true ∧
        ∀ c ∈ s.claims, c.granted = true ∧ (s.cooling.state = .defrost ∨ c.owner ≠ .heater)) ∧
    ({ factoryCooling with enable := false } : CoolingSettings).enable = false ∧
    ((cooled .running 60).cooling.runStart = some 200000 ∧ 200000 + 60000 ≤ (cooled .running 60).now ∧
      ({ cooled .running 60 with now := 210000 } : State).now < 200000 + 60000 ∧ (cooled .running 60).settings.cooling.intervalH ≤ 24) ∧
    ((defrosting 60).cooling.defrostStart = some 200000 ∧
      ((cooled .drain 60).modCooling fun c => { c with drainStart := some 0 }).cooling.drainStart = some 0 ∧
      (counted (cooled .drain 60) true 0).cooling.zone.fault = true) := by decide +kernel

/-- A body of SET_COOLING: the factory settings with this base setpoint, enable and zones. -/
def coolArgs (base : Word16) (enable zones : Byte) : CoolingArgs :=
  { base := base, hysteresis := 20, defrostType := 0, interval := 6, terminate := 80, safetyLimit := 70, safetyDelay := 30,
    setbackOff := 30, setbackDelay := 60, enable := enable, zones := zones }

/-- Cooling is switched off, and the safety monitor is HELD. -/
def uncooled : State :=
  { serviced with
    settings := { factorySettings with cooling := { factoryCooling with enable := false } },
    cooling := initCooling { factoryCooling with enable := false } 0,
    safety := { state := .held, excursion := 0, cause := some .coolingOff, peak := none, check := false } }

/-- In service with the compressor running since this time, and this accumulated run time. -/
def chilling (total run : Nat) : State :=
  { (cooled .running 60).modCooling fun c => { c with accumulated := total, runStart := some run } with
    holder := some 0, doorOpen := true }

theorem wit_SetCoolingReplacesSettings :
    (factoryCooling.base + factoryCooling.hysteresis ≤ factoryCooling.safetyLimit - 10 ∧ 0 ≤ factoryCooling.setbackOff) ∧
    (admitted serviced 0 (.setCooling (coolArgs 40 1 0xF0)) = true ∧ quiet serviced = true ∧ serviced.cooling.requested = false ∧
      serviced.cooling.accumulated < 25200000 ∧ serviced.safety.state ≠ .held ∧ serviced.settings.cooling.enable = true) ∧
    ((coolArgs 40 1 0xF0).base.toInt + 20 ≤ 70 - 10 ∧ ¬ (coolArgs 41 1 0xF0).base.toInt + 20 ≤ 70 - 10) ∧
    (admitted uncooled 0 (.setCooling (coolArgs 0 1 0)) = true ∧ uncooled.settings.cooling.enable = false ∧
      uncooled.cooling.requested = false ∧ uncooled.safety.state = .held) ∧
    ((chilling 25200000 200000).cooling.state = .running ∧ quiet (chilling 25200000 200000) = true ∧
      (chilling 25200000 200000).settings.cooling.intervalH * 3600000 + 3600000 ≤ 25200000 ∧
      admitted (chilling 25200000 200000) 0 (.setCooling (coolArgs 40 1 0xF0)) = true) ∧
    ((chilling 14400000 200000).cooling.accumulated < 25200000 ∧ 3 * 3600000 + 3600000 ≤ (chilling 14400000 200000).cooling.accumulated ∧
      200000 + 60000 ≤ (chilling 14400000 200000).now ∧ (chilling 14400000 200000).now < 240001 + 60000 ∧
      (cooled .idle 60).cooling.state = .idle) := by decide +kernel
/-- R139: an interval lowered to 3 h makes the defrost forced, and it begins at once with 60 s of the run passed. -/
theorem test_interval_lowered :
    let a := { coolArgs 30 1 0xF0 with interval := 3 }
    (after (.setCooling 0 a) (chilling 14400000 240000)).cooling.state = .defrost ∧
    (after (.setCooling 0 a) (chilling 14400000 240001)).cooling.state = .running ∧
    (after (.setCooling 0 a) (chilling 25200000 200000)).cooling.state = .running := by decide +kernel
/-- R132, R133: 12.0 + 8.0 °C, below the limit of 15.0 by 1.0 and a hysteresis of 0.5, is held at 12.0 °C. -/
theorem test_setback_bound : setpointOf { factoryCooling with base := 120, hysteresis := 5, safetyLimit := 150, setbackOff := 80 } .setback =
    120 := by decide +kernel

/-- The safety record in this state, with the zone at this temperature. -/
def safe (st : SafetyState) (excursion : Nat) (check : Bool) (t : Int) : State :=
  { cooled .idle t with
    safety := { state := st, excursion := excursion, cause := if st = .held then some .temp else none,
                peak := if st = .clear then none else some 71, check := check },
    holder := some 0, doorOpen := true }

theorem wit_SafetyTimesHoldsAndReleases :
    ((safe .clear 0 false 71).safety.state = .clear ∧ (safe .clear 0 false 71).cooling.zone.filtered = some 71 ∧
      (safe .clear 0 false 71).cooling.mode = .normal ∧ (safe .clear 0 false 71).settings.cooling.safetyLimit = 70) ∧
    (safe .clear 0 false 70).cooling.zone.filtered = some 70 ∧ (safe .clear 0 true 70).safety.check = true ∧
    ((safe .timing 0 false 65).safety.state = .timing ∧ (safe .timing 0 false 65).cooling.zone.filtered = some 65) ∧
    ((safe .timing 1798 false 66).safety.excursion + 1 < 1800 ∧ 1800 ≤ (safe .timing 1799 false 66).safety.excursion + 1) ∧
    (admitted (safe .held 0 false 65) 0 .safetyRelease = true ∧ (safe .held 0 false 65).safety.state = .held ∧
      (safe .held 0 false 65).settings.cooling.enable = true ∧ (safe .held 0 false 66).cooling.zone.filtered = some 66) := by
  decide +kernel
/-- R155: the first valid temperature above the limit after power-on is HELD at once; 7.0 °C itself is not. -/
theorem test_power_up_hold : (safe .clear 0 true 71).safetySample.safety.cause = some .powerUp ∧
    (safe .clear 0 true 70).safetySample.safety.state = .clear := by decide +kernel

/-! ## Witnesses: load budget, audit, service, store, power -/

/-- A body of SET_BUDGET. -/
def budgetArgs (normal start : Byte) : BudgetArgs :=
  { normal := normal, low := 45, motor := 22, probe := 6, payout := 3, start := start, run := 1, heater := 25, lighting := 4 }

theorem wit_ArbiterGrantsInOrder :
    ((waiting 60).claims.map (·.owner)).Nodup ∧ (waiting 60).power = .running ∧
    ((waiting 60).claimOf .compressor = some { granted .compressor 45 with granted := false }) ∧
    (plain.supply = .good ∧ 70 ≤ 70 ∧ 84 < 85) ∧ ({ plain with supply := .low } : State).supply = .low ∧
    (admitted serviced 0 (.setBudget (budgetArgs 49 45)) = true ∧ (budgetArgs 49 45).start.toNat + 4 ≤ 49 ∧
      ¬ (budgetArgs 48 45).start.toNat + 4 ≤ 48 ∧ 2 * (budgetArgs 49 45).motor.toNat ≤ 49) := by decide +kernel
theorem wit_CountersRiseAndReportsRead :
    admitted plain 0 (.readAudit 1 1) = true ∧ 1 < (2 : Byte).toNat ∧ admitted plain 2 (.readAudit 0 0) = true ∧
    admitted plain 0 .clearInterim = true ∧ admitted nearlyFull 2 .readTubes = true ∧
    admitted (cooled .running 60) 2 .readCooling = true := by decide +kernel
/-- R146, 10.9: the state RUNNING, its run of 100 s and the running relay stand in READ_COOLING. -/
theorem test_read_cooling :
    (((after (.readCooling 0) (cooled .running 60)).links[0].backlog.map (·.body)).map fun b => [b.getD 1 0, b.getD 22 0, b.getD 23 0]) =
      [[4, 100, 0]] := by decide +kernel
theorem wit_ServiceDoorAndRestart :
    (admitted plain 0 .serviceEnter = true ∧ plain.doorOpen = false) ∧
    (admitted (allRoles serviced) 2 .serviceEnter = true ∧ serviced.holder = some 0 ∧ serviced.doorOpen = true) ∧
    (admitted ({ plain with doorOpen := true } : State) 0 .serviceEnter = true ∧ plain.holder = none) ∧
    (admitted serviced 0 .serviceLeave = true ∧ quiet serviced = true ∧ serviced.queue = [] ∧ serviced.payout.state = .done) ∧
    (plain.power = .running ∧ (plain.queue.map (·.id)).Nodup ∧ plain.doorOpen ≠ true ∧ serviced.doorOpen ≠ false) ∧
    ((attempt 1 none).payout.current.isSome = true ∧ (paying .waitGrant).payout.state = .waitGrant ∧
      ({ paying .hold with doorOpen := true } : State).payout.state = .hold) ∧
    (admitted serviced 0 (.setOutputs 3) = true ∧ 4 ≤ (4 : Byte).toNat) ∧
    (admitted serviced 0 .softRestart = true ∧ serviced.card = none ∧ serviced.credit.session = .idle) ∧
    (turning .run [.left] false).queue = [order7 .cash .turning] ∧
    ((cozy plain).cooling.mode = .setback ∧ (cozy plain).queue = [] ∧ (cozy plain).payout.state = .done ∧
      plain.settings.links[(0 : Link)].mask.getLsbD 7 = true ∧ plain.links[(0 : Link)].notices.length < 16) ∧
    (carded.queue = [] ∧ carded.credit.session ≠ .remote ∧ carded.payout.state = .done ∧
      admitted (allRoles { carded with holder := some 0, doorOpen := true }) 0 .softRestart = true) := by decide +kernel
/-- R184, R144: the door's change is told, and in SETBACK the lighting comes back. -/
theorem test_door_change :
    (after (.doorChange true) (cozy plain)).out0Pin = true ∧
    ((after (.doorChange true) plain).links[0].notices.map (·.body)) = [.door true] := by decide +kernel
/-- R187, R124: CARD_END, the credit's notice, SERVICE and SYSTEM(RESTART) in their order. -/
theorem test_soft_restart :
    ((after (.softRestart 0) (allRoles { carded with holder := some 0, doorOpen := true })).links[1].notices.map (·.body)) =
      [.cardEnd 1 500 .restart, .credit .idle 0 .session, .service 0 false, .system .restart 0] := by decide +kernel
theorem wit_OutputsFollowAndStopSaves :
    plain.power = .running ∧ ({ plain with power := .saving } : State).power ≠ .running ∧
    ((turning .start [.away] false).drive.phase = .start ∧ (turning .start [.away] false).drive.service = some (service7 false)) ∧
    ((turning .run [.left] false).power = .running ∧ (turning .run [.left] false).drive.cams[0]? = some .left ∧
      (probing 79).drive.stepEnd.isSome = true ∧ (after .powerFail plain).power = .saving ∧ (after .powerFail plain).startAfter = none) ∧
    plain.drive.phase = .idle ∧ (admitted serviced 0 .saveSettings = true ∧ serviced.store.saving = none) ∧
    ({ serviced with store := { serviced.store with saving := some factorySettings } } : State).store.saving = some factorySettings := by
  decide +kernel
/-- R94, R96: the row conducts while the spiral is energized, and no more in BRAKE. -/
theorem test_row_conducts : (turning .run [.left] false).rowPin 1 = true ∧ (turning .run [.left] false).colPin 3 = .on ∧
    (turning .run [.left] false).duty = 30 ∧ (turning .brake [] false).duty = 0 ∧ (turning .brake [] false).colPin 3 = .shorted := by
  decide +kernel
/-- R164, R192: the stop opens the relay and saves the cash credit. -/
theorem test_power_fail : (after .powerFail (cash 160)).power = .saving ∧ (after .powerFail (cash 160)).out0Pin = false ∧
    (after .powerFail (cash 160)).store.stopping.map (·.cash) = some 160 := by decide +kernel

/-- The part as a power failure has left it, its running region written. -/
def failed (n : Nat) : State := after .runningRegionSaveEnd (after .powerFail (cash n))

theorem wit_PowerOnLoadsRegions :
    (∀ r crc, plain.store.running = .written r crc → r.safety = .held → r.cause.isSome = true) ∧
    (∀ r, (after .powerFail plain).store.stopping = some r → r.safety = .held → r.cause.isSome = true) ∧
    plain.resetAsserted = false ∧ (after .resetNAssert plain).resetAsserted = true ∧
    ((after .runningRegionSaveEnd (after .resetNAssert plain)).power = .stopped ∧
      (after .runningRegionSaveEnd (after .resetNAssert plain)).supply ≠ .powerFail) ∧
    ((after .resetNAssert plain).power = .saving ∧
      (after (.powerOn .resetRelease 95 ⟨.replicate 5 false, .replicate 5 false⟩) (after .resetNAssert plain)).startAfter =
        some (95, ⟨.replicate 5 false, .replicate 5 false⟩)) ∧
    ((failed 160).power = .stopped ∧ (failed 160).supply = .powerFail ∧ (failed 160).resetAsserted = false ∧ 90 < 91) ∧
    (69 < 70 ∧ (after .resetNAssert (failed 160)).resetAsserted = true ∧ (after .resetNAssert (failed 160)).supply = .powerFail) := by
  refine ⟨?_, ?_, ?_⟩
  · intro r crc h; exact absurd h (by simp [plain, State.reset])
  · intro r h g
    have e : some plain.snapshot = some r := h
    cases e
    exact absurd g (by decide +kernel)
  · decide +kernel

/-- The running region that the stop of `failed` wrote passes its check. -/
theorem failed_running (n : Nat) : (failed n).store.goodRunning = some (cash n).snapshot := by
  show (if crc16 (cash n).snapshot.bytes = crc16 (cash n).snapshot.bytes then some (cash n).snapshot else none) = _
  exact if_pos rfl

/-- R25: with credit 160 in the running region the session is CASH at power-on; a recovery at 90 % does nothing yet. -/
theorem test_power_recovery (tb : TubeLevels) :
    ((failed 160).loaded 91 tb).credit = { idleCredit with session := .cash, cash := 160 } ∧
    (after (.powerRecovery 90 tb) (failed 160)).power = .stopped := by
  refine ⟨?_, rfl⟩
  simp only [State.loaded, Store.loadRunning, failed_running]
  rfl
/-- R168, R193: contents whose CRC does not match are a bad region. -/
theorem test_bad_region (c : Settings) : (Region.written c (crc16 c.bytes + 1)).checked Settings.bytes = none := by
  have h : crc16 c.bytes ≠ crc16 c.bytes + 1 := by
    intro e
    have := congrArg BitVec.toNat e
    simp only [BitVec.toNat_add] at this
    have hb := (crc16 c.bytes).isLt
    simp at this
    omega
  exact if_neg h
theorem wit_EveryStepKeepsBounds : State.reset.Bounded ∧ quiet State.reset = true ∧ State.reset.SafetyHolds ∧
    State.reset.pending = [] := by
  refine ⟨⟨?_, ?_, ?_, ?_, ?_, ?_, ?_⟩, ?_, ⟨?_, ?_, ?_, ?_, ?_, ?_, ?_⟩, ?_⟩ <;>
  first | decide +kernel | simp [State.reset, initSafety]
theorem wit_EveryStepKeepsSettingsInRange : State.reset.SettingsHold := by
  refine ⟨factory_inRange, ?_, ?_, ?_⟩ <;> first | decide +kernel | simp [State.reset, regionInRange]

end Sys2Proof.Tests
end

section
/-! SET_SALES (R8): what the operands give, the owner's answer, and the command of an admitted request. -/

namespace Sys2Proof.Machine

/-- A byte is a flag exactly where it is 0 or 1, and 1 sets it. -/
theorem boolOf_eq (b : Byte) : boolOf b = if b.toNat ≤ 1 then some (decide (b = 1)) else none := by
  by_cases h0 : b = 0
  · simp [boolOf, h0]
  by_cases h1 : b = 1
  · simp [boolOf, h1]
  · have hlt : ¬ b.toNat ≤ 1 := by bv_omega
    simp only [boolOf, if_neg h0, if_neg h1, if_neg hlt]

/-- R96: the ranges of a motion profile, on its bytes. -/
def ProfileFits (p : ProfileArgs) : Prop :=
  p.ramp.toNat ≤ 500 ∧ 50 ≤ p.duty.toNat ∧ p.duty.toNat ≤ 100 ∧ p.extra.toNat ≤ 2

/-- R8, checks 1 and 2: the ranges of the sales settings, on the body of SET_SALES. -/
def SalesFit (a : SalesArgs) : Prop :=
  a.creditLimit.toNat ≤ 60000 ∧ a.horizon.toNat ≤ 60000 ∧ a.forceVend.toNat ≤ 1 ∧ a.multiVend.toNat ≤ 1 ∧
    1 ≤ a.rejectThreshold.toNat ∧ a.rejectThreshold.toNat ≤ 31 ∧ 10 ≤ a.cardIdle.toNat ∧
    ProfileFits a.ambient ∧ ProfileFits a.chilled

/-- The sales settings that the body of SET_SALES gives. -/
def salesOf (a : SalesArgs) : SalesSettings :=
  { creditLimit := a.creditLimit.toNat, horizon := a.horizon.toNat, forceVend := decide (a.forceVend = 1),
    multiVend := decide (a.multiVend = 1), rejectThreshold := a.rejectThreshold.toNat, cardIdle := a.cardIdle.toNat,
    ambient := profileNew a.ambient, chilled := profileNew a.chilled }

theorem Profile.inRange_iff (p : Profile) :
    p.inRange = true ↔ p.ramp ≤ 500 ∧ 50 ≤ p.duty ∧ p.duty ≤ 100 ∧ p.extra ≤ 2 :=
  decide_eq_true_iff

theorem profileNew_inRange (p : ProfileArgs) : (profileNew p).inRange = true ↔ ProfileFits p :=
  Profile.inRange_iff _

theorem SalesSettings.inRange_iff (x : SalesSettings) :
    x.inRange = true ↔ (x.creditLimit ≤ 60000 ∧ x.horizon ≤ 60000 ∧ 1 ≤ x.rejectThreshold ∧ x.rejectThreshold ≤ 31 ∧
      10 ≤ x.cardIdle ∧ x.cardIdle ≤ 255) ∧ x.ambient.inRange = true ∧ x.chilled.inRange = true := by
  rw [SalesSettings.inRange, Bool.and_eq_true, Bool.and_eq_true, and_assoc]
  exact and_congr decide_eq_true_iff Iff.rfl

/-- Checks 1 and 2 together are the ranges of R8: the upper limit of the card idle time is that of its byte. -/
theorem salesOf_inRange (a : SalesArgs) :
    (a.forceVend.toNat ≤ 1 ∧ a.multiVend.toNat ≤ 1 ∧ (salesOf a).inRange = true) ↔ SalesFit a := by
  have hidle : a.cardIdle.toNat ≤ 255 := Nat.le_of_lt_succ a.cardIdle.isLt
  simp only [SalesSettings.inRange_iff, salesOf, profileNew_inRange, SalesFit]
  constructor
  · rintro ⟨hforce, hmulti, ⟨hlimit, hhorizon, hlow, hhigh, hcard, _⟩, hprofiles⟩
    exact ⟨hlimit, hhorizon, hforce, hmulti, hlow, hhigh, hcard, hprofiles⟩
  · rintro ⟨hlimit, hhorizon, hforce, hmulti, hlow, hhigh, hcard, hprofiles⟩
    exact ⟨hforce, hmulti, ⟨hlimit, hhorizon, hlow, hhigh, hcard, hidle⟩, hprofiles⟩

theorem salesNew_fit (a : SalesArgs) (h : SalesFit a) : salesNew a = some (salesOf a) := by
  obtain ⟨hf, hm, hr⟩ := (salesOf_inRange a).mpr h
  simp only [salesNew, boolOf_eq, if_pos hf, if_pos hm]
  exact if_pos hr

theorem salesNew_unfit (a : SalesArgs) (h : ¬ SalesFit a) : salesNew a = none := by
  by_cases hf : a.forceVend.toNat ≤ 1
  · by_cases hm : a.multiVend.toNat ≤ 1
    · have hr : ¬ (salesOf a).inRange = true := fun hr => h ((salesOf_inRange a).mp ⟨hf, hm, hr⟩)
      simp only [salesNew, boolOf_eq, if_pos hf, if_pos hm]
      exact if_neg hr
    · simp [salesNew, boolOf_eq, hf, hm]
  · simp [salesNew, boolOf_eq, hf]

/-- R8: values outside their ranges are refused, and nothing changes. -/
theorem reqSetSales_unfit (a : SalesArgs) (s : State) (h : ¬ SalesFit a) : s.reqSetSales a = (s, [0x11]) := by
  simp only [State.reqSetSales, salesNew_unfit a h]
  rfl

/-- R8, R54: values in range replace the sales settings, and a changed horizon evaluates the exact-change flag. -/
theorem reqSetSales_fit (a : SalesArgs) (s : State) (h : SalesFit a) :
    s.reqSetSales a =
      (let t : State := { s with settings := { s.settings with sales := salesOf a } }
       (if a.horizon.toNat = s.settings.sales.horizon then t else t.evalExact, [0x00])) := by
  simp only [State.reqSetSales, salesNew_fit a h]
  rfl

/-- An admitted SET_SALES: its owner's effect and answer. -/
theorem exec_setSales (l : Link) (a : SalesArgs) (s : State) (h : s.Admits l (.setSales a)) :
    exec (.setSales l a) s = .next ((s.reqSetSales a).1.answerOn l 0xC7 (s.reqSetSales a).2) :=
  exec_admitted s l (.setSales a) h

/-- Settles O16: the operands fit or they do not, and the owner's answer is given for each. -/
theorem setSalesReplacesSettings : Obligations.SetSalesReplacesSettings := by
  intro l a s hadm
  refine ⟨fun hbad => ?_, fun hgood => ?_⟩
  · rw [exec_setSales l a s hadm, reqSetSales_unfit a s hbad]
  · rw [exec_setSales l a s hadm, reqSetSales_fit a s hgood]
    rfl

end Sys2Proof.Machine
end

section
/-! SET_COIN_TYPE (R30, R31): what the operands give, the owner's checks in words, and the command of an admitted request. -/

namespace Sys2Proof.Machine

/-! ## The operands (R31, check 1) -/

/-- R30: the ranges of a coin type, on the body of SET_COIN_TYPE. -/
def CoinFit (a : CoinTypeArgs) : Prop :=
  a.type.toNat ≤ 7 ∧ a.enabled.toNat ≤ 1 ∧ 1 ≤ a.value.toNat ∧ a.value.toNat ≤ 10000 ∧ a.fMin.toNat ≤ a.fMax.toNat ∧
    a.fMax.toNat ≤ 4095 ∧ a.aMin.toNat ≤ a.aMax.toNat ∧ (a.dest.toNat ≤ 4 ∨ a.dest = 0xFF)

/-- The coin type that the body of SET_COIN_TYPE gives; a destination that is no tube is CASHBOX_ONLY. -/
def coinOf (a : CoinTypeArgs) : CoinType :=
  { enabled := decide (a.enabled = 1), value := a.value.toNat, fMin := a.fMin.toNat, fMax := a.fMax.toNat,
    aMin := a.aMin.toNat, aMax := a.aMax.toNat, dest := tubeOf a.dest }

/-- A byte is a destination exactly where it names a tube or is 0xFF, and then `tubeOf` reads it. -/
theorem destOf_eq (b : Byte) : destOf b = if b.toNat ≤ 4 ∨ b = 0xFF then some (tubeOf b) else none := by
  by_cases hbox : b = 0xFF
  · simp [destOf, tubeOf, hbox]
  rw [destOf, if_neg hbox]
  by_cases htube : b.toNat < 5
  · rw [if_pos (Or.inl (Nat.le_of_lt_succ htube)), tubeOf, dif_pos htube]
    rfl
  · have hout : ¬ (b.toNat ≤ 4 ∨ b = 0xFF) := not_or.mpr ⟨fun h => htube (Nat.lt_succ_of_le h), hbox⟩
    rw [if_neg hout, tubeOf, dif_neg htube]
    rfl

theorem coinTypeOf_of_toNat (b : Byte) (k : CoinTypeNo) (h : b.toNat = k.val) : coinTypeOf b = some k := by
  have hlt : b.toNat < 8 := h ▸ k.isLt
  exact (dif_pos hlt).trans (congrArg some (Fin.ext h))

theorem coinTypeOf_eq_none (b : Byte) (h : ¬ b.toNat ≤ 7) : coinTypeOf b = none :=
  dif_neg fun hlt => h (Nat.le_of_lt_succ hlt)

/-- R30: the ranges of value and windows; the upper limit of A is that of its byte. -/
theorem coinOf_inRange (a : CoinTypeArgs) :
    (coinOf a).inRange = true ↔ 1 ≤ a.value.toNat ∧ a.value.toNat ≤ 10000 ∧ a.fMin.toNat ≤ a.fMax.toNat ∧
      a.fMax.toNat ≤ 4095 ∧ a.aMin.toNat ≤ a.aMax.toNat := by
  have hA : a.aMax.toNat ≤ 255 := Nat.le_of_lt_succ a.aMax.isLt
  simp [CoinType.inRange, coinOf, hA]

theorem coinTypeNew_fit (a : CoinTypeArgs) (k : CoinTypeNo) (h : CoinFit a) (hk : a.type.toNat = k.val) :
    coinTypeNew a = some (k, coinOf a) := by
  obtain ⟨-, hen, hv1, hv2, hf, hf2, ha, hd⟩ := h
  have hr : (coinOf a).inRange = true := (coinOf_inRange a).mpr ⟨hv1, hv2, hf, hf2, ha⟩
  simp only [coinTypeNew, coinTypeOf_of_toNat _ k hk, boolOf_eq, if_pos hen, destOf_eq, if_pos hd]
  exact if_pos hr

theorem coinTypeNew_unfit (a : CoinTypeArgs) (h : ¬ CoinFit a) : coinTypeNew a = none := by
  by_cases ht : a.type.toNat ≤ 7
  · have htype := coinTypeOf_of_toNat a.type ⟨_, Nat.lt_succ_of_le ht⟩ rfl
    by_cases hen : a.enabled.toNat ≤ 1
    · by_cases hd : a.dest.toNat ≤ 4 ∨ a.dest = 0xFF
      · have hr : ¬ (coinOf a).inRange = true := fun hr => by
          obtain ⟨hv1, hv2, hf, hf2, ha⟩ := (coinOf_inRange a).mp hr
          exact h ⟨ht, hen, hv1, hv2, hf, hf2, ha, hd⟩
        simp only [coinTypeNew, htype, boolOf_eq, if_pos hen, destOf_eq, if_pos hd]
        exact if_neg hr
      · simp only [coinTypeNew, htype, boolOf_eq, if_pos hen, destOf_eq, if_neg hd]
    · simp [coinTypeNew, boolOf_eq, hen]
  · simp [coinTypeNew, coinTypeOf_eq_none _ ht]

/-! ## The owner's checks (R31, checks 2 and 3) -/

/-- R31, check 2 fails: an enabled type goes to a tube of another value. -/
def State.ValueDiffers (s : State) (c : CoinType) : Prop :=
  c.enabled = true ∧ ∃ i : TubeNo, c.dest = some i ∧ s.settings.tubes[i].value ≠ c.value

/-- R31, check 3 fails: both windows of an enabled type share a value with those of another enabled type. -/
def State.WindowsClash (s : State) (k : CoinTypeNo) (c : CoinType) : Prop :=
  c.enabled = true ∧ ∃ u : CoinTypeNo, u ≠ k ∧ s.settings.coins[u].enabled = true ∧
    c.fMin ≤ s.settings.coins[u].fMax ∧ s.settings.coins[u].fMin ≤ c.fMax ∧
    c.aMin ≤ s.settings.coins[u].aMax ∧ s.settings.coins[u].aMin ≤ c.aMax

theorem CoinType.overlaps_iff (c d : CoinType) :
    c.overlaps d = true ↔ c.fMin ≤ d.fMax ∧ d.fMin ≤ c.fMax ∧ c.aMin ≤ d.aMax ∧ d.aMin ≤ c.aMax :=
  decide_eq_true_iff

theorem State.valueAgrees_eq_false_iff (s : State) (c : CoinType) :
    s.valueAgrees c = false ↔ ∃ i : TubeNo, c.dest = some i ∧ s.settings.tubes[i].value ≠ c.value := by
  cases hd : c.dest with
  | none => simp [State.valueAgrees, hd]
  | some i => simp [State.valueAgrees, hd]

theorem State.valueDiffers_iff (s : State) (c : CoinType) :
    (c.enabled && !s.valueAgrees c) = true ↔ s.ValueDiffers c := by
  rw [Bool.and_eq_true, Bool.not_eq_true', State.valueAgrees_eq_false_iff, State.ValueDiffers]

theorem State.windowsClash_iff (s : State) (k : CoinTypeNo) (c : CoinType) :
    (c.enabled && (List.finRange 8).any fun u =>
      decide (u ≠ k) && s.settings.coins[u].enabled && c.overlaps s.settings.coins[u]) = true ↔ s.WindowsClash k c := by
  simp only [Bool.and_eq_true, List.any_eq_true, List.mem_finRange, true_and, decide_eq_true_eq, CoinType.overlaps_iff, and_assoc,
    State.WindowsClash]

/-! ## The owner's answers (R31) -/

/-- The accepted SET_COIN_TYPE: the entry is replaced whole. -/
def State.setCoinEntry (k : CoinTypeNo) (c : CoinType) (s : State) : State :=
  { s with settings := { s.settings with coins := s.settings.coins.set k c } }

theorem reqSetCoinType_unfit (a : CoinTypeArgs) (s : State) (h : ¬ CoinFit a) : s.reqSetCoinType a = (s, [0x11]) := by
  simp only [State.reqSetCoinType, coinTypeNew_unfit a h]
  rfl

section
variable {a : CoinTypeArgs} {s : State} {k : CoinTypeNo} (hfit : CoinFit a) (hk : a.type.toNat = k.val)
include hfit hk

theorem reqSetCoinType_differs (hv : s.ValueDiffers (coinOf a)) : s.reqSetCoinType a = (s, [0x11]) := by
  simp only [State.reqSetCoinType, coinTypeNew_fit a k hfit hk, if_pos ((s.valueDiffers_iff _).mpr hv)]
  rfl

theorem reqSetCoinType_clash (hv : ¬ s.ValueDiffers (coinOf a)) (hw : s.WindowsClash k (coinOf a)) :
    s.reqSetCoinType a = (s, [0x2D]) := by
  simp only [State.reqSetCoinType, coinTypeNew_fit a k hfit hk, if_neg (mt (s.valueDiffers_iff _).mp hv),
    if_pos ((s.windowsClash_iff k _).mpr hw)]
  rfl

theorem reqSetCoinType_replaces (hv : ¬ s.ValueDiffers (coinOf a)) (hw : ¬ s.WindowsClash k (coinOf a)) :
    s.reqSetCoinType a = (s.setCoinEntry k (coinOf a), [0x00]) := by
  simp only [State.reqSetCoinType, coinTypeNew_fit a k hfit hk, if_neg (mt (s.valueDiffers_iff _).mp hv),
    if_neg (mt (s.windowsClash_iff k _).mp hw)]
  rfl

end

/-- An admitted SET_COIN_TYPE: its owner's effect and answer. -/
theorem exec_setCoinType (l : Link) (a : CoinTypeArgs) (s : State) (h : s.Admits l (.setCoinType a)) :
    exec (.setCoinType l a) s = .next ((s.reqSetCoinType a).1.answerOn l 0xC2 (s.reqSetCoinType a).2) :=
  exec_admitted s l (.setCoinType a) h

/-- Settles O23: the operands fit or they do not; where they fit, checks 2 and 3 of R31 decide in their order. -/
theorem setCoinTypeReplacesEntry : Obligations.SetCoinTypeReplacesEntry := by
  intro l a s hadm
  refine ⟨fun hbad => ?_, fun k hfit hk => ⟨fun hv => ?_, fun hv hw => ?_, fun hv hw => ?_⟩⟩
  · rw [exec_setCoinType l a s hadm, reqSetCoinType_unfit a s hbad]
  · rw [exec_setCoinType l a s hadm, reqSetCoinType_differs hfit hk hv]
  · rw [exec_setCoinType l a s hadm, reqSetCoinType_clash hfit hk hv hw]
  · rw [exec_setCoinType l a s hadm, reqSetCoinType_replaces hfit hk hv hw]
    rfl

end Sys2Proof.Machine
end

section
/-! READ_CREDIT (R24) and READ_SELECTION (R79): the answer of each owner as the bytes of its layout. -/

namespace Sys2Proof.Machine

/-! ## Selection codes (00, section 6.2) -/

theorem selOf_of_toNat (b : Byte) (i : Sel) (h : b.toNat = i.val) : selOf b = some i := by
  have hlt : b.toNat < 80 := h ▸ i.isLt
  exact (dif_pos hlt).trans (congrArg some (Fin.ext h))

theorem selOf_eq_none (b : Byte) (h : 80 ≤ b.toNat) : selOf b = none :=
  dif_neg (Nat.not_lt.mpr h)

/-! ## READ_CREDIT -/

/-- The card session's funds and the funds still unreserved; both fields are 0 without a card session record (R24). -/
def cardFields : Option CardSession → List Byte
  | some c => le16 c.funds ++ le16 (c.funds - c.reserved)
  | none => [0, 0, 0, 0]

theorem cardFields_eq (card : Option CardSession) :
    le16 ((card.map (·.funds)).getD 0) ++ le16 ((card.map fun c => c.funds - c.reserved).getD 0) = cardFields card := by
  cases card with
  | none => rfl
  | some c => rfl

theorem reqReadCredit_eq (s : State) :
    s.reqReadCredit = (s,
      [0x00, byte s.credit.session.code] ++ le16 s.credit.cash ++ le16 s.credit.reserved ++
        le16 (s.credit.cash - s.credit.reserved) ++
        [byte s.coin.inFlight.length] ++ le16 s.inFlightValue ++
        [byte (bits [s.credit.vended, s.credit.returnPending.isSome, s.credit.payoutActive, s.settings.sales.forceVend,
          s.settings.sales.multiVend])] ++
        le16 s.credit.owed ++ le16 s.settings.sales.creditLimit ++ cardFields s.card) := by
  rw [State.reqReadCredit, ← cardFields_eq, ← List.append_assoc]
  rfl

/-- An admitted READ_CREDIT: its owner's effect and answer. -/
theorem exec_readCredit (l : Link) (s : State) (h : s.Admits l .readCredit) :
    exec (.readCredit l) s = .next (s.reqReadCredit.1.answerOn l 0x93 s.reqReadCredit.2) :=
  exec_admitted s l .readCredit h

/-! ## READ_SELECTION -/

theorem reqReadSelection_unnamed (sel : Byte) (s : State) (h : 80 ≤ sel.toNat) : s.reqReadSelection sel = (s, [0x11]) := by
  simp only [State.reqReadSelection, selOf_eq_none sel h]
  rfl

/-- A hold set as its byte: the five kinds in the low bits (10.9). -/
theorem byte_holds (h : HoldSet) : byte h.toNat = h.setWidth 8 :=
  BitVec.ofNat_toNat 8 h

theorem reqReadSelection_named (sel : Byte) (s : State) (i : Sel) (h : sel.toNat = i.val) :
    s.reqReadSelection sel = (s,
      [0x00, sel] ++ le16 s.settings.sels[i].price ++
        [byte s.settings.sels[i].column.val, byte (bit s.settings.sels[i].pair), byte s.settings.sels[i].domain.val,
          byte (s.settings.zones[rowOf i]).code, byte (bits [s.settings.sels[i].perishable, s.settings.sels[i].protect]),
          stockByte s.sels[i].stock, byte s.sels[i].noDropRun] ++
        le16 s.sels[i].saleCount.toNat ++
        [s.sels[i].holds.setWidth 8, byte (s.ordersFor i)]) := by
  have hcode : byte i.val = sel := by rw [← h, byte, BitVec.ofNat_toNat, BitVec.setWidth_eq]
  simp only [State.reqReadSelection, selOf_of_toNat sel i h, hcode, byte_holds]
  rfl

/-- An admitted READ_SELECTION: its owner's effect and answer. -/
theorem exec_readSelection (l : Link) (sel : Byte) (s : State) (h : s.Admits l (.readSelection sel)) :
    exec (.readSelection l sel) s = .next ((s.reqReadSelection sel).1.answerOn l 0x94 (s.reqReadSelection sel).2) :=
  exec_admitted s l (.readSelection sel) h

/-- Settles O14: both owners answer with the state as it stands. The premise on the card session record only names the sessions
in which the card's fields are not 0; the report holds without it. -/
theorem readCreditAndSelectionReport : Obligations.ReadCreditAndSelectionReport := by
  refine ⟨fun l s hadm _ => ?_, fun l sel s hadm => ⟨fun hbad => ?_, fun i hsel => ?_⟩⟩
  · rw [exec_readCredit l s hadm, reqReadCredit_eq]
    cases hcard : s.card with
    | none => rfl
    | some c => rfl
  · rw [exec_readSelection l sel s hadm, reqReadSelection_unnamed sel s hbad]
  · rw [exec_readSelection l sel s hadm, reqReadSelection_named sel s i hsel]
    dsimp only
    cases hstock : s.sels[i].stock with
    | none => rfl
    | some n => rfl

end Sys2Proof.Machine
end

section
/-! SET_PRICE (R76), PROTECT (R185) and CLEAR_HOLD (R78): the change of one selection, and its owner's refusals. -/

namespace Sys2Proof.Machine

/-! ## SET_PRICE (R76) -/

theorem amountOf_eq (w : Word16) : amountOf w = if w.toNat ≤ 60000 then some w.toNat else none := rfl

theorem reqSetPrice_badArg (l : Link) (sel : Byte) (price : Word16) (s : State)
    (h : 80 ≤ sel.toNat ∨ 60000 < price.toNat) : s.reqSetPrice l sel price = (s, [0x11]) := by
  rcases h with hsel | hprice
  · simp only [State.reqSetPrice, selOf_eq_none sel hsel]
    rfl
  · simp only [State.reqSetPrice, amountOf_eq, if_neg (Nat.not_le.mpr hprice)]
    cases selOf sel with
    | none => rfl
    | some i => rfl

section
variable {l : Link} {sel : Byte} {price : Word16} {s : State} {i : Sel} (hsel : sel.toNat = i.val)
  (hprice : price.toNat ≤ 60000)
include hsel hprice

theorem reqSetPrice_protected (hprot : s.settings.sels[i].protect = true) (hholder : s.holder ≠ some l) :
    s.reqSetPrice l sel price = (s, [0x2B]) := by
  simp only [State.reqSetPrice, selOf_of_toNat sel i hsel, amountOf_eq, if_pos hprice]
  exact if_pos ⟨hprot, hholder⟩

theorem reqSetPrice_replaces (hfree : s.settings.sels[i].protect = false ∨ s.holder = some l) :
    s.reqSetPrice l sel price = (s.modSelSettings i fun e => { e with price := price.toNat }, [0x00]) := by
  have hpass : ¬ (s.settings.sels[i].protect = true ∧ s.holder ≠ some l) := by
    rintro ⟨hprot, hholder⟩
    rcases hfree with hopen | hpriv
    · exact Bool.false_ne_true (hopen.symm.trans hprot)
    · exact hholder hpriv
  simp only [State.reqSetPrice, selOf_of_toNat sel i hsel, amountOf_eq, if_pos hprice]
  exact if_neg hpass

end

/-- An admitted SET_PRICE: its owner's effect and answer. -/
theorem exec_setPrice (l : Link) (sel : Byte) (price : Word16) (s : State) (h : s.Admits l (.setPrice sel price)) :
    exec (.setPrice l sel price) s =
      .next ((s.reqSetPrice l sel price).1.answerOn l 0xC0 (s.reqSetPrice l sel price).2) :=
  exec_admitted s l (.setPrice sel price) h

/-! ## PROTECT (R185) -/

theorem reqProtect_badArg (sel value : Byte) (s : State) (h : 80 ≤ sel.toNat ∨ 1 < value.toNat) :
    s.reqProtect sel value = (s, [0x11]) := by
  rcases h with hsel | hvalue
  · simp only [State.reqProtect, selOf_eq_none sel hsel]
    rfl
  · simp only [State.reqProtect, boolOf_eq, if_neg (Nat.not_le.mpr hvalue)]
    cases selOf sel with
    | none => rfl
    | some i => rfl

theorem reqProtect_sets (sel value : Byte) (s : State) (i : Sel) (hsel : sel.toNat = i.val) (hvalue : value.toNat ≤ 1) :
    s.reqProtect sel value = (s.modSelSettings i fun e => { e with protect := decide (value = 1) }, [0x00]) := by
  simp only [State.reqProtect, selOf_of_toNat sel i hsel, boolOf_eq, if_pos hvalue]
  rfl

/-- An admitted PROTECT: its owner's effect and answer. -/
theorem exec_protect (l : Link) (sel value : Byte) (s : State) (h : s.Admits l (.protect sel value)) :
    exec (.protect l sel value) s = .next ((s.reqProtect sel value).1.answerOn l 0xD4 (s.reqProtect sel value).2) :=
  exec_admitted s l (.protect sel value) h

/-! ## Hold kinds and their codes (R72, 10.9) -/

theorem holdKindOf_code (k : HoldKind) : holdKindOf k.code = some k := by
  cases k <;> rfl

theorem HoldKind.code_injective : Function.Injective HoldKind.code := fun k m h =>
  Option.some.inj (by rw [← holdKindOf_code k, h, holdKindOf_code m])

theorem HoldKind.code_lt (k : HoldKind) : k.code < 5 := by
  cases k <;> decide

theorem HoldKind.exists_code (n : Nat) (h : n < 5) : ∃ k : HoldKind, k.code = n := by
  match n, h with
  | 0, _ => exact ⟨.disabled, rfl⟩
  | 1, _ => exact ⟨.soldOut, rfl⟩
  | 2, _ => exact ⟨.jammed, rfl⟩
  | 3, _ => exact ⟨.safety, rfl⟩
  | 4, _ => exact ⟨.noMotor, rfl⟩

theorem holdKindOf_eq_none (n : Nat) (h : 5 ≤ n) : holdKindOf n = none := by
  match n, h with
  | _ + 5, _ => rfl

/-- A byte that carries a kind's code is another kind's code only where the kinds are one. -/
theorem HoldKind.eq_iff_of_code {k : HoldKind} {b : Byte} (h : k.code = b.toNat) (m : HoldKind) :
    k = m ↔ b = byte m.code := by
  have hb : byte k.code = b := by rw [h, byte, BitVec.ofNat_toNat, BitVec.setWidth_eq]
  constructor
  · rintro rfl
    exact hb.symm
  · rintro rfl
    have hlt : m.code < 256 := Nat.lt_trans m.code_lt (by decide)
    exact HoldKind.code_injective (h.trans ((BitVec.toNat_ofNat _ _).trans (Nat.mod_eq_of_lt hlt)))

/-! ## Removing a hold kind (R74) -/

theorem HoldKind.mask_eq_shiftLeft (k : HoldKind) : k.mask = 1#5 <<< k.code := by
  cases k <;> rfl

/-- Removing an absent kind leaves the hold set as it is (R74). -/
theorem removeKind_of_absent (h : HoldSet) (k : HoldKind) (hk : holdsKind h k = false) : removeKind h k = h := by
  refine BitVec.eq_of_getLsbD_eq fun j hj => ?_
  rw [removeKind, HoldKind.mask_eq_shiftLeft, ← BitVec.twoPow_eq]
  by_cases hj' : k.code = j
  · subst hj'
    rw [holdsKind] at hk
    simp [hk]
  · simp [hj, Ne.symm hj']

/-- Changing an entry to itself changes no table. -/
theorem upd_of_fixed {α : Type} {n : Nat} (v : Vector α n) (i : Fin n) (f : α → α) (h : f v[i] = v[i]) : upd v i f = v := by
  rw [upd, h]
  exact Vector.set_getElem_self i.isLt

/-- A broadcast is its change of the link records. -/
theorem State.broadcast_eq (s : State) (b : NoticeBody) : s.broadcast b = { s with links := (s.broadcast b).links } :=
  congrArg (fun t : State => { t with links := (s.broadcast b).links }) (s.broadcast_frame b)

/-- A broadcast reads and writes no selection's running entry. -/
theorem State.broadcast_withSels (s : State) (b : NoticeBody) (v : Vector SelRun 80) :
    ({ s with sels := v } : State).broadcast b = { s.broadcast b with sels := v } := by
  have hpush (n : Link → Notice) (dest : List Link) (t : State) :
      dest.foldl (fun u l => u.push (n l) l) { t with sels := v } =
        { dest.foldl (fun u l => u.push (n l) l) t with sels := v } :=
    List.foldl_hom (fun u : State => { u with sels := v }) fun _ _ => rfl
  show ({ s with sels := v } : State).deliver b (allLinks.filter fun l => s.inMask l b) = _
  unfold State.broadcast
  cases allLinks.filter fun l => s.inMask l b with
  | nil => rfl
  | cons first rest =>
    simp only [State.deliver, hpush]
    rfl

/-- The links after the SELECTION_HOLD notice of one removed kind: only a kind that was present has one (R74). -/
def State.removalLinks (i : Sel) (k : HoldKind) (s : State) : Vector LinkPort 3 :=
  if holdsKind s.sels[i].holds k then (s.broadcast (.selectionHold i (removeKind s.sels[i].holds k) k)).links else s.links

/-- A removed kind leaves the selection's hold set, and the links have its notice; nothing else changes (R74). -/
theorem State.removeHold_eq (s : State) (i : Sel) (k : HoldKind) :
    s.removeHold i k =
      { s with sels := upd s.sels i fun e => { e with holds := removeKind e.holds k }, links := s.removalLinks i k } := by
  unfold State.removeHold State.removalLinks
  split
  next hpresent =>
    simp only [State.holdNotice, State.modSel, upd_get, if_pos, State.broadcast_withSels]
    exact congrArg (fun t : State => { t with sels := upd s.sels i fun e => { e with holds := removeKind e.holds k } })
      (s.broadcast_eq _)
  next habsent =>
    rw [upd_of_fixed]
    rw [removeKind_of_absent _ _ (eq_false_of_ne_true habsent)]

/-! ## CLEAR_HOLD (R78) -/

/-- The running entry of a selection from which CLEAR_HOLD takes a kind: SOLD_OUT returns the no-drop run to 0 (R78). -/
def SelRun.cleared (k : HoldKind) (e : SelRun) : SelRun :=
  { e with holds := removeKind e.holds k, noDropRun := if k = .soldOut then 0 else e.noDropRun }

/-- The accepted CLEAR_HOLD: the entry without the kind, and the notice of a kind that was present. -/
def State.holdCleared (i : Sel) (k : HoldKind) (s : State) : State :=
  { s with sels := upd s.sels i (SelRun.cleared k), links := s.removalLinks i k }

/-- The hold set and the no-drop run of the entry, in the code of the kind that the request carries. -/
theorem State.holdCleared_sels (s : State) (i : Sel) {k : HoldKind} {b : Byte} (h : k.code = b.toNat) :
    (s.holdCleared i k).sels = s.sels.set i { s.sels[i] with
      holds := s.sels[i].holds &&& ~~~ (1#5 <<< b.toNat), noDropRun := if b = 1 then 0 else s.sels[i].noDropRun } := by
  have hsold : k = .soldOut ↔ b = 1 := HoldKind.eq_iff_of_code h .soldOut
  simp only [State.holdCleared, upd, SelRun.cleared, removeKind, HoldKind.mask_eq_shiftLeft, h, hsold]

theorem State.holdCleared_links_of_absent (s : State) (i : Sel) (k : HoldKind) (h : holdsKind s.sels[i].holds k = false) :
    (s.holdCleared i k).links = s.links :=
  if_neg (ne_true_of_eq_false h)

theorem State.holdCleared_links_of_present (s : State) (i : Sel) (k : HoldKind) (h : holdsKind s.sels[i].holds k = true) :
    (s.holdCleared i k).links = (s.broadcast (.selectionHold i (s.holdCleared i k).sels[i].holds k)).links := by
  have hholds : (s.holdCleared i k).sels[i].holds = removeKind s.sels[i].holds k := by
    simp [State.holdCleared, SelRun.cleared]
  rw [hholds]
  exact if_pos h

theorem State.removeHold_eq_holdCleared (s : State) (i : Sel) (k : HoldKind) (h : k ≠ .soldOut) :
    s.removeHold i k = s.holdCleared i k := by
  have hrun : SelRun.cleared k = fun e => { e with holds := removeKind e.holds k } := by
    funext e
    rw [SelRun.cleared, if_neg h]
  rw [State.removeHold_eq, State.holdCleared, hrun]

/-- SOLD_OUT: the no-drop run is set back first, of which the notice says nothing. -/
theorem State.removeHold_runReset (s : State) (i : Sel) :
    (s.modSel i fun e => { e with noDropRun := 0 }).removeHold i .soldOut = s.holdCleared i .soldOut := by
  rw [State.removeHold_eq]
  simp [State.holdCleared, State.removalLinks, State.modSel, SelRun.cleared, upd, State.broadcast_withSels]

theorem reqClearHold_badArg (sel kind : Byte) (s : State) (h : 80 ≤ sel.toNat ∨ 5 ≤ kind.toNat ∨ kind = 3) :
    s.reqClearHold sel kind = (s, [0x11]) := by
  rcases h with hsel | hkind | rfl
  · simp only [State.reqClearHold, selOf_eq_none sel hsel]
    rfl
  · simp only [State.reqClearHold, holdKindOf_eq_none _ hkind]
    cases selOf sel with
    | none => rfl
    | some i => rfl
  · unfold State.reqClearHold
    cases selOf sel with
    | none => rfl
    | some i => rfl

section
variable {sel kind : Byte} {s : State} {i : Sel} {k : HoldKind} (hsel : sel.toNat = i.val) (hcode : k.code = kind.toNat)
  (hsafety : k ≠ .safety)
include hsel hcode hsafety

theorem reqClearHold_notFitted (hmotor : k = .noMotor) (hfit : s.allFitted (s.spiralsOf i) = false) :
    s.reqClearHold sel kind = (s, [0x20]) := by
  simp only [State.reqClearHold, selOf_of_toNat sel i hsel, ← hcode, holdKindOf_code, if_neg hsafety]
  exact if_pos ⟨hmotor, ne_true_of_eq_false hfit⟩

theorem reqClearHold_clears (hpass : k ≠ .noMotor ∨ s.allFitted (s.spiralsOf i) = true) :
    s.reqClearHold sel kind = (s.holdCleared i k, [0x00]) := by
  have hfits : ¬ (k = .noMotor ∧ ¬ s.allFitted (s.spiralsOf i) = true) := by
    rintro ⟨hmotor, hfit⟩
    exact hpass.elim (fun hk => hk hmotor) hfit
  simp only [State.reqClearHold, selOf_of_toNat sel i hsel, ← hcode, holdKindOf_code, if_neg hsafety, if_neg hfits]
  by_cases hsold : k = .soldOut
  · subst hsold
    rw [if_pos rfl, State.removeHold_runReset]
    rfl
  · rw [if_neg hsold, State.removeHold_eq_holdCleared s i k hsold]
    rfl

end

/-- An admitted CLEAR_HOLD: its owner's effect and answer. -/
theorem exec_clearHold (l : Link) (sel kind : Byte) (s : State) (h : s.Admits l (.clearHold sel kind)) :
    exec (.clearHold l sel kind) s = .next ((s.reqClearHold sel kind).1.answerOn l 0xD2 (s.reqClearHold sel kind).2) :=
  exec_admitted s l (.clearHold sel kind) h

/-- Settles O38: each request's ranges, then its owner's refusals, then the one selection's change. CLEAR_HOLD's state is
`holdCleared`, whose fields the clauses name. -/
theorem priceProtectAndHoldRequests : Obligations.PriceProtectAndHoldRequests := by
  refine ⟨fun l sel s =>
      ⟨fun price hadm => ⟨fun hbad => ?_, fun i hsel hprice => ⟨fun hprot hholder => ?_, fun hfree => ?_⟩⟩,
       fun value hadm => ⟨fun hbad => ?_, fun i hsel hvalue => ?_⟩⟩,
    fun l sel kind s hadm => ⟨fun hbad => ?_, fun i hsel hfive hkind => ?_⟩⟩
  · rw [exec_setPrice l sel price s hadm, reqSetPrice_badArg l sel price s hbad]
  · rw [exec_setPrice l sel price s hadm, reqSetPrice_protected hsel hprice hprot hholder]
  · rw [exec_setPrice l sel price s hadm, reqSetPrice_replaces hsel hprice hfree]
  · rw [exec_protect l sel value s hadm, reqProtect_badArg sel value s hbad]
  · rw [exec_protect l sel value s hadm, reqProtect_sets sel value s i hsel hvalue]
  · rw [exec_clearHold l sel kind s hadm, reqClearHold_badArg sel kind s hbad]
  · obtain ⟨k, hcode⟩ := HoldKind.exists_code kind.toNat hfive
    have hnamed (m : HoldKind) : k = m ↔ kind = byte m.code := HoldKind.eq_iff_of_code hcode m
    have hsafety : k ≠ .safety := mt (hnamed .safety).mp hkind
    refine ⟨fun hmotor hfit => ?_, fun hpass =>
      ⟨s.holdCleared i k, ?_, s.holdCleared_sels i hcode, rfl, fun habsent => ?_, fun m hm hpresent => ?_⟩⟩
    · rw [exec_clearHold l sel kind s hadm, reqClearHold_notFitted hsel hcode hsafety ((hnamed .noMotor).mpr hmotor) hfit]
    · rw [exec_clearHold l sel kind s hadm,
        reqClearHold_clears hsel hcode hsafety (hpass.imp_left (mt (hnamed .noMotor).mp))]
    · exact s.holdCleared_links_of_absent i k (by rw [holdsKind, hcode, habsent])
    · obtain rfl : m = k := HoldKind.code_injective (hm.trans hcode.symm)
      exact s.holdCleared_links_of_present i m (by rw [holdsKind, hm, hpresent])

end Sys2Proof.Machine
end

section
/-! IDENT, LINK_STATUS (R174), CLEAR_LINK_ERRORS (R175) and FETCH_NOTICES (R180): requests of the group "any", whose owners' answers
stand here as the bytes of their layouts. -/

namespace Sys2Proof.Machine

/-! ## Requests of the group "any" (R173) -/

/-- A request of the group "any" needs no role and no privilege: it is admitted where it is taken. -/
theorem State.admits_of_group_any {s : State} {l : Link} {r : Request} (h : s.Takes l) (hany : groupOf r = .any) :
    s.Admits l r := by
  have hrole : s.hasGroup l r = true := by simp only [State.hasGroup, hany]
  have hfree : needsPrivilege r = false := by simp only [needsPrivilege, hany]
  exact ⟨h, hrole, fun hneeds => absurd (hfree.symm.trans hneeds) Bool.false_ne_true⟩

/-- A request of the group "any" that is taken: its owner's effect and answer. -/
theorem exec_of_group_any {s : State} {l : Link} (r : Request) (h : s.Takes l) (hany : groupOf r = .any) :
    exec (commandOf l r) s = .next ((s.perform l r).1.answerOn l (r.kind + 0x80) (s.perform l r).2) :=
  exec_admitted s l r (State.admits_of_group_any h hany)

/-! ## Sets as bytes (10.9) -/

/-- A set of at most eight members is reported as its bits. -/
theorem byte_toNat {w : Nat} (b : BitVec w) : byte b.toNat = b.setWidth 8 :=
  BitVec.ofNat_toNat 8 b

/-- A set is read exactly where no member lies outside its field. -/
theorem setOf_eq {w : Nat} (m : Nat) (b : BitVec w) :
    setOf m b = if b.toNat < 2 ^ m then some (b.setWidth m) else none := rfl

/-! ## The owners' answers -/

/-- R174: the part code 0x3C40, the revision 1 and the link that asked. -/
theorem reqIdent_eq (l : Link) (s : State) : s.reqIdent l = (s, [0x00, 0x40, 0x3C, 0x01, byte l.val]) := rfl

/-- R174: the link's record and settings as they stand; the backlog does not count the answer itself. -/
theorem reqLinkStatus_eq (l : Link) (s : State) :
    s.reqLinkStatus l = (s,
      [0x00, byte l.val, s.links[l].errors.setWidth 8, byte (bit s.links[l].overflow), byte s.links[l].notices.length,
        byte s.links[l].backlog.length, byte (bits [s.atn l, decide (s.holder = some l)]),
        s.settings.links[l].roles.setWidth 8, s.settings.links[l].domains.setWidth 8] ++
      le24 s.settings.links[l].mask.toNat ++
      [byte (bit s.settings.links[l].mirror),
        byte (bits [s.settings.links[l].attnNotices, s.settings.links[l].attnErrors])]) := by
  simp only [← byte_toNat]
  rfl

/-- R175: a position above BACKLOG is refused. -/
theorem reqClearLinkErrors_badArg (l : Link) (mask : Byte) (s : State) (h : 64 ≤ mask.toNat) :
    s.reqClearLinkErrors l mask = (s, [0x11]) := by
  have hout : ¬ mask.toNat < 2 ^ 6 := Nat.not_lt.mpr h
  simp only [State.reqClearLinkErrors, setOf_eq, if_neg hout]
  rfl

/-- R175: the flags named are cleared, and the answer carries the flags that stay. -/
theorem reqClearLinkErrors_clears (l : Link) (mask : Byte) (s : State) (h : mask.toNat < 64) :
    s.reqClearLinkErrors l mask =
      (s.modPort l fun p => { p with errors := p.errors &&& ~~~ mask.setWidth 6 },
        [0x00, (s.links[l].errors &&& ~~~ mask.setWidth 6).setWidth 8]) := by
  have hin : mask.toNat < 2 ^ 6 := h
  simp only [State.reqClearLinkErrors, setOf_eq, if_pos hin, State.modPort_links, upd_get, if_pos, byte_toNat]
  rfl

/-- R180: at most four notices leave, and the answer counts those that leave and those that stay. -/
theorem reqFetchNotices_eq (l : Link) (s : State) :
    s.reqFetchNotices l =
      (s.modPort l fun p => { p with notices := p.notices.drop 4, overflow := false },
        [0x00, byte (min 4 s.links[l].notices.length), byte (bit s.links[l].overflow),
          byte (s.links[l].notices.length - 4)] ++ (s.links[l].notices.take 4).flatMap Notice.entry) := by
  simp only [State.reqFetchNotices, Config.fetchSize, List.length_take, List.length_drop]
  rfl

/-! ## The commands -/

/-- A taken IDENT: its owner's effect and answer. -/
theorem exec_ident (l : Link) (s : State) (h : s.Takes l) :
    exec (.ident l) s = .next ((s.reqIdent l).1.answerOn l 0x81 (s.reqIdent l).2) :=
  exec_of_group_any .ident h rfl

/-- A taken LINK_STATUS: its owner's effect and answer. -/
theorem exec_linkStatus (l : Link) (s : State) (h : s.Takes l) :
    exec (.linkStatus l) s = .next ((s.reqLinkStatus l).1.answerOn l 0x83 (s.reqLinkStatus l).2) :=
  exec_of_group_any .linkStatus h rfl

/-- A taken CLEAR_LINK_ERRORS: its owner's effect and answer. -/
theorem exec_clearLinkErrors (l : Link) (mask : Byte) (s : State) (h : s.Takes l) :
    exec (.clearLinkErrors l mask) s =
      .next ((s.reqClearLinkErrors l mask).1.answerOn l 0x84 (s.reqClearLinkErrors l mask).2) :=
  exec_of_group_any (.clearLinkErrors mask) h rfl

/-- A taken FETCH_NOTICES: its owner's effect and answer. -/
theorem exec_fetchNotices (l : Link) (s : State) (h : s.Takes l) :
    exec (.fetchNotices l) s = .next ((s.reqFetchNotices l).1.answerOn l 0x82 (s.reqFetchNotices l).2) :=
  exec_of_group_any .fetchNotices h rfl

/-- Settles O11: each request is admitted where it is taken, and its owner's answer is its layout. -/
theorem linkRequestsReportAndClear : Obligations.LinkRequestsReportAndClear := by
  refine ⟨fun l s htakes => ⟨?_, ?_⟩, fun l mask s htakes => ⟨fun hnamed => ?_, fun habove => ?_⟩, fun l s htakes => ?_⟩
  · rw [exec_ident l s htakes, reqIdent_eq]
  · rw [exec_linkStatus l s htakes, reqLinkStatus_eq]
  · rw [exec_clearLinkErrors l mask s htakes, reqClearLinkErrors_clears l mask s hnamed]
  · rw [exec_clearLinkErrors l mask s htakes, reqClearLinkErrors_badArg l mask s habove]
  · rw [exec_fetchNotices l s htakes, reqFetchNotices_eq]

end Sys2Proof.Machine
end

section
/-! SET_LINK (R177): what the operands give, the law that some link has the SERVICE role, and the command of an admitted request. -/

namespace Sys2Proof.Machine

/-! ## The operands (R177, check 1) -/

/-- R177, check 1, for the settings themselves: no set has a member outside its field, and mirror is 0 or 1. -/
def LinkFit (a : LinkArgs) : Prop :=
  a.roles.toNat < 64 ∧ a.domains.toNat < 16 ∧ a.mask.toNat < 2 ^ 17 ∧ a.mirror.toNat ≤ 1 ∧ a.enables.toNat < 4

/-- The link settings that the body of SET_LINK gives. -/
def linkSettingsOf (a : LinkArgs) : LinkSettings :=
  { roles := a.roles.setWidth 6, domains := a.domains.setWidth 4, mask := a.mask.setWidth 17,
    mirror := a.mirror.getLsbD 0, attnNotices := a.enables.getLsbD 0, attnErrors := a.enables.getLsbD 1 }

theorem linkOf_eq_some_iff (b : Byte) (n : Link) : linkOf b = some n ↔ b.toNat = n.val := by
  constructor
  · intro h
    obtain ⟨hlt, hn⟩ := Option.dite_none_right_eq_some.mp h
    exact congrArg Fin.val (Option.some.inj hn)
  · intro h
    have hlt : b.toNat < 3 := h ▸ n.isLt
    exact (dif_pos hlt).trans (congrArg some (Fin.ext h))

theorem setOf_eq_some_iff {w m : Nat} (b : BitVec w) (x : BitVec m) :
    setOf m b = some x ↔ b.toNat < 2 ^ m ∧ b.setWidth m = x := by
  rw [setOf_eq, Option.ite_none_right_eq_some, Option.some.injEq]

/-- A flag's lowest bit is its value. -/
theorem boolOf_eq_some_iff (b : Byte) (v : Bool) : boolOf b = some v ↔ b.toNat ≤ 1 ∧ b.getLsbD 0 = v := by
  rw [boolOf_eq, Option.ite_none_right_eq_some, Option.some.injEq]
  refine and_congr_right fun hflag => ?_
  obtain rfl | rfl : b = 0 ∨ b = 1 := by bv_omega
  · rfl
  · rfl

/-- R177, check 1: the body is read exactly where the link exists and its settings fit. -/
theorem linkNew_eq_some_iff (a : LinkArgs) (n : Link) (k : LinkSettings) :
    linkNew a = some (n, k) ↔ a.link.toNat = n.val ∧ LinkFit a ∧ linkSettingsOf a = k := by
  constructor
  · intro h
    unfold linkNew at h
    split at h
    next hlink hroles hdomains hmask hmirror henables =>
      obtain ⟨rfl, rfl⟩ := Prod.mk.inj (Option.some.inj h)
      obtain ⟨hr, rfl⟩ := (setOf_eq_some_iff _ _).mp hroles
      obtain ⟨hd, rfl⟩ := (setOf_eq_some_iff _ _).mp hdomains
      obtain ⟨hm, rfl⟩ := (setOf_eq_some_iff _ _).mp hmask
      obtain ⟨hmi, rfl⟩ := (boolOf_eq_some_iff _ _).mp hmirror
      obtain ⟨he, rfl⟩ := (setOf_eq_some_iff _ _).mp henables
      refine ⟨(linkOf_eq_some_iff _ _).mp hlink, ⟨hr, hd, hm, hmi, he⟩, ?_⟩
      simp [linkSettingsOf]
    next => cases h
  · rintro ⟨hn, ⟨hr, hd, hm, hmi, he⟩, rfl⟩
    have hlink : linkOf a.link = some n := (linkOf_eq_some_iff _ n).mpr hn
    have hroles : setOf 6 a.roles = some (a.roles.setWidth 6) := (setOf_eq_some_iff _ _).mpr ⟨hr, rfl⟩
    have hdomains : setOf 4 a.domains = some (a.domains.setWidth 4) := (setOf_eq_some_iff _ _).mpr ⟨hd, rfl⟩
    have hmask : setOf 17 a.mask = some (a.mask.setWidth 17) := (setOf_eq_some_iff _ _).mpr ⟨hm, rfl⟩
    have hmirror : boolOf a.mirror = some (a.mirror.getLsbD 0) := (boolOf_eq_some_iff _ _).mpr ⟨hmi, rfl⟩
    have henables : setOf 2 a.enables = some (a.enables.setWidth 2) := (setOf_eq_some_iff _ _).mpr ⟨he, rfl⟩
    simp [linkNew, linkSettingsOf, hlink, hroles, hdomains, hmask, hmirror, henables]

theorem linkNew_unfit (a : LinkArgs) (h : ¬ (a.link.toNat ≤ 2 ∧ LinkFit a)) : linkNew a = none := by
  refine Option.eq_none_iff_forall_ne_some.mpr fun ⟨n, k⟩ hnew => ?_
  obtain ⟨hn, hfit, _⟩ := (linkNew_eq_some_iff a n k).mp hnew
  exact h ⟨hn ▸ Nat.le_of_lt_succ n.isLt, hfit⟩

/-! ## The SERVICE role (R177, check 2) -/

theorem mem_allLinks (l : Link) : l ∈ allLinks := by
  revert l
  decide

theorem hasService_iff (ks : Vector LinkSettings 3) :
    hasService ks = true ↔ ∃ m : Link, ks[m].roles.getLsbD 5 = true := by
  simp only [hasService, List.any_eq_true, mem_allLinks, true_and]
  exact Iff.rfl

/-! ## The owner's answers (R177) -/

/-- The accepted SET_LINK: the named link's settings are replaced whole. -/
def State.setLinkEntry (n : Link) (k : LinkSettings) (s : State) : State :=
  { s with settings := { s.settings with links := s.settings.links.set n k } }

theorem reqSetLink_unfit (a : LinkArgs) (s : State) (h : ¬ (a.link.toNat ≤ 2 ∧ LinkFit a)) :
    s.reqSetLink a = (s, [0x11]) := by
  simp only [State.reqSetLink, linkNew_unfit a h]
  rfl

section
variable {a : LinkArgs} {s : State} {n : Link} (hn : a.link.toNat = n.val) (hfit : LinkFit a)
include hn hfit

theorem reqSetLink_conflict (h : ¬ hasService (s.setLinkEntry n (linkSettingsOf a)).settings.links = true) :
    s.reqSetLink a = (s, [0x2D]) := by
  simp only [State.reqSetLink, (linkNew_eq_some_iff a n _).mpr ⟨hn, hfit, rfl⟩]
  exact if_neg h

theorem reqSetLink_replaces (h : hasService (s.setLinkEntry n (linkSettingsOf a)).settings.links = true) :
    s.reqSetLink a = (s.setLinkEntry n (linkSettingsOf a), [0x00]) := by
  simp only [State.reqSetLink, (linkNew_eq_some_iff a n _).mpr ⟨hn, hfit, rfl⟩]
  exact if_pos h

end

/-- An admitted SET_LINK: its owner's effect and answer. -/
theorem exec_setLink (l : Link) (a : LinkArgs) (s : State) (h : s.Admits l (.setLink a)) :
    exec (.setLink l a) s = .next ((s.reqSetLink a).1.answerOn l 0xC6 (s.reqSetLink a).2) :=
  exec_admitted s l (.setLink a) h

/-- Settles O13: the operands fit or they do not; where they fit, the SERVICE role decides. -/
theorem setLinkReplacesSettings : Obligations.SetLinkReplacesSettings := by
  intro l a s hadm
  refine ⟨fun hbad => ?_, fun n hn hr hd hm hmi he => ?_⟩
  · rw [exec_setLink l a s hadm, reqSetLink_unfit a s hbad]
  · have hfit : LinkFit a := ⟨hr, hd, hm, hmi, he⟩
    dsimp only
    split
    next hservice =>
      rw [exec_setLink l a s hadm, reqSetLink_replaces hn hfit ((hasService_iff _).mpr hservice)]
      rfl
    next hnone =>
      rw [exec_setLink l a s hadm, reqSetLink_conflict hn hfit (mt (hasService_iff _).mp hnone)]

end Sys2Proof.Machine
end
